-- ==== Sys2Proof/Word.lean ====
section
/-! DEFINITION. The words SBC8 handles: the widths the spec gives its values (00_scope.md R5-R8, R11, R14) and nothing
else. Every value is unsigned (R11); the bit-field helpers stand in Decode.lean and Machine/Operands.lean. -/

namespace Sys2Proof

/-- A 32-bit register word, the data of one transaction (R14, R54, R57). -/
abbrev Word := BitVec 32

/-- "Block: an 8-bit unsigned value, logically two independent 4-bit nibbles" (R5); a round key is Block-sized (R7). -/
abbrev Block := BitVec 8

/-- "Nibble: a 4-bit unsigned value in [0,15]" (R6). -/
abbrev Nibble := BitVec 4

/-- A round count, `ROUND_W` = 16 bits (R8). -/
abbrev RoundCount := BitVec 16

/-- A look-up table of 16 nibbles (R6, R22, R23); entry `j` is element `j`. It need not be a bijection. -/
abbrev Lut := Vector Nibble 16

/-- The transaction selector `t = {we, addr[3:0]}` (R91). -/
abbrev Selector := BitVec 5

end Sys2Proof
end

