-- ==== Sys2Proof/Config.lean ====
section
/-! DEFINITION. What an implementation of SBC8 fixes: the parameters of 00_scope.md R9 and 93_implementation_defined.md
I1, I2. `ROUND_W` is the width of `RoundCount`; `ENGINE_LATENCY` (I6) is not a number of the model, since the engine's
steps interleave with the host's in any order (State's `sched`). -/

namespace Sys2Proof

/-- `HAS_DEC`, whether the command DEC exists: true in SBC8 (R9, I1). Where it is false OP 0x8 is reserved. -/
def Config.hasDec : Bool := true

/-- `RESET_SBOX`, the reset value of SBOX: the table of R22. -/
def Config.resetSbox : Lut :=
  #v[0xD#4, 0x5#4, 0x8#4, 0x3#4, 0x1#4, 0x9#4, 0xC#4, 0xB#4, 0x6#4, 0xE#4, 0xF#4, 0xA#4, 0x2#4, 0x7#4, 0x4#4, 0x0#4]

/-- The reset value of ISBOX: the table R23 gives, the inverse of `Config.resetSbox`. -/
def Config.resetIsbox : Lut :=
  #v[0xF#4, 0x4#4, 0xC#4, 0x3#4, 0xE#4, 0x1#4, 0x8#4, 0xD#4, 0x2#4, 0x5#4, 0xB#4, 0x7#4, 0x6#4, 0x0#4, 0x9#4, 0xA#4]

/-- The constant ID reads (R35): no state, so it stands here. -/
def Config.idWord : Word := 0x53420100#32

end Sys2Proof
end

