-- ==== Sys2Proof/Syntax.lean ====
section
/-! DEFINITION. The instructions of SBC8 as syntax: one constructor of `Instr` for each of the 42 rows of
spec/opcode_table.json, in the table's order, over the two encoding levels of 30_encoding.md R90. -/

namespace Sys2Proof

/-- The source block select SRC of a command word: DIN or DOUT (R92, R94). -/
inductive Src where
  | din
  | dout
deriving DecidableEq, Repr

/-- The round-key select KSEL of a command word: KEY0 or KEY1 (R92, R96). -/
inductive KSel where
  | key0
  | key1
deriving DecidableEq, Repr

/-- The 16 word registers of the register space, in the order of their addresses (R21, R50). -/
inductive Reg where
  | cmd | status | ctrl | id | din | dout | key0 | key1
  | rounds | rsvd24 | sboxLo | sboxHi | isboxLo | isboxHi | rsvd38 | rsvd3C
deriving DecidableEq, Repr

/-- The ten commands of R93 with the operand fields each of them uses: what a legal command word stands for. -/
inductive Cmd where
  | nop
  | sub (src : Src)
  | subi (src : Src)
  | kxor (k : KSel) (src : Src)
  | rnd (k : KSel) (src : Src)
  | irnd (k : KSel) (src : Src)
  | enc (src : Src)
  | enc2 (src : Src)
  | dec (src : Src)
  | sbchk
deriving DecidableEq, Repr

/-- One constructor per row of the opcode table: the ten `CMD` rows, then the 32 `BUS` rows. A command is the write of its
word to CMD (R99); a bus write carries its data word, a bus read carries none. -/
inductive Instr where
  | nop
  | sub (src : Src)
  | subi (src : Src)
  | kxor (k : KSel) (src : Src)
  | rnd (k : KSel) (src : Src)
  | irnd (k : KSel) (src : Src)
  | enc (src : Src)
  | enc2 (src : Src)
  | dec (src : Src)
  | sbchk
  | rdCmd
  | rdStatus
  | rdCtrl
  | rdId
  | rdDin
  | rdDout
  | rdKey0
  | rdKey1
  | rdRounds
  | rdRsvd24
  | rdSboxLo
  | rdSboxHi
  | rdIsboxLo
  | rdIsboxHi
  | rdRsvd38
  | rdRsvd3C
  | wrCmd (v : Word)
  | wrStatus (v : Word)
  | wrCtrl (v : Word)
  | wrId (v : Word)
  | wrDin (v : Word)
  | wrDout (v : Word)
  | wrKey0 (v : Word)
  | wrKey1 (v : Word)
  | wrRounds (v : Word)
  | wrRsvd24 (v : Word)
  | wrSboxLo (v : Word)
  | wrSboxHi (v : Word)
  | wrIsboxLo (v : Word)
  | wrIsboxHi (v : Word)
  | wrRsvd38 (v : Word)
  | wrRsvd3C (v : Word)
deriving DecidableEq, Repr

/-- The instruction a command is. -/
def Cmd.toInstr : Cmd → Instr
  | .nop => .nop
  | .sub src => .sub src
  | .subi src => .subi src
  | .kxor k src => .kxor k src
  | .rnd k src => .rnd k src
  | .irnd k src => .irnd k src
  | .enc src => .enc src
  | .enc2 src => .enc2 src
  | .dec src => .dec src
  | .sbchk => .sbchk

/-- An encoded instruction at one of the two levels of R90: a command word `c` (a transaction with `we = 1`, `addr = 0` and
`wdata = c`), or a transaction given by its selector and data word (R91). -/
inductive PortWord where
  | command (c : Word)
  | transaction (t : Selector) (wdata : Word)
deriving DecidableEq, Repr

/-- The port signals `{we, addr}` and `wdata` that an encoded instruction drives: a command word is the data of the write
to address 0 (R90). -/
def PortWord.signals : PortWord → Selector × Word
  | .command c => (0b10000#5, c)
  | .transaction t wdata => (t, wdata)

/-- One line of the host's program (R99, R100): a transaction, or `WAIT`, which reads STATUS until BUSY = 0. -/
inductive HostLine where
  | word (p : PortWord)
  | wait
deriving DecidableEq, Repr

end Sys2Proof
end

