-- ==== Sys2Proof/WellFormed.lean ====
section
/-! DEFINITION. Well-formedness, the predicate form of the spec's legality rules: `legal` is R95 as its text has it, and
Decode.lean's decoder is written from the tables of R93 and R97, so that each can be held against the other. -/

namespace Sys2Proof

/-- The OP values that use KSEL: KXOR, RND, IRND (R95). -/
def opUsesKsel (op : Nat) : Bool := op == 3 || op == 4 || op == 5

/-- The OP values that use SRC: SUB, SUBI, KXOR, RND, IRND, ENC, ENC2, DEC (R95). -/
def opUsesSrc (op : Nat) : Bool := 1 ≤ op && op ≤ 8

/-- `legal(c)` of R95: the four checks, in its order. -/
def legal (c : Word) : Bool :=
  c.toNat / 64 == 0
    && c.toNat % 16 ≤ 9
    && (!c.getLsbD 4 || opUsesKsel (c.toNat % 16))
    && (!c.getLsbD 5 || opUsesSrc (c.toNat % 16))

/-- An encoded instruction is well formed when its command word is legal; every transaction is legal (R91). -/
def PortWord.wellFormed : PortWord → Bool
  | .command c => legal c
  | .transaction _ _ => true

/-- The instructions of an implementation with or without DEC (93_implementation_defined.md I1). -/
def Instr.wellFormedWith (hasDec : Bool) : Instr → Bool
  | .dec _ => hasDec
  | _ => true

/-- The instructions of SBC8: their operand fields are typed, so the one check left is that DEC exists. -/
def Instr.wellFormed (i : Instr) : Bool := i.wellFormedWith Config.hasDec

end Sys2Proof
end

