-- ==== Sys2Proof/Decode.lean ====
section
/-! DEFINITION. Decoding and encoding of command words and transactions (30_encoding.md R90-R98), and the form in which the
opcode table's numbered bits are laid out as one of the two. -/

namespace Sys2Proof

/-- Why a command word stands for no command (R95, R98). SBC8 reports each of them as ILLEGAL_CMD. -/
inductive DecodeError where
  /-- bits [31:6] are not 0 -/
  | reservedBits
  /-- OP is 0xA-0xF -/
  | reservedOp
  /-- KSEL is 1 in a command that does not use it -/
  | kselUnused
  /-- SRC is 1 in a command that does not use it -/
  | srcUnused
deriving DecidableEq, Repr

/-! ## The fields of a command word (R92) -/

/-- OP, bits [3:0]. -/
def cmdOp (c : Word) : BitVec 4 := c.extractLsb' 0 4

/-- KSEL, bit 4: 0 = KEY0, 1 = KEY1. -/
def cmdKsel (c : Word) : KSel := if c.getLsbD 4 then .key1 else .key0

/-- SRC, bit 5: 0 = DIN, 1 = DOUT. -/
def cmdSrc (c : Word) : Src := if c.getLsbD 5 then .dout else .din

/-- The reserved bits [31:6], which must be 0. -/
def cmdReserved (c : Word) : BitVec 26 := c.extractLsb' 6 26

/-! ## Decoding -/

/-- A command that uses neither KSEL nor SRC. -/
def decodePlain (c : Word) (cmd : Cmd) : Except DecodeError Cmd :=
  if cmdKsel c = .key1 then .error .kselUnused
  else if cmdSrc c = .dout then .error .srcUnused
  else .ok cmd

/-- A command that uses SRC only. -/
def decodeSrc (c : Word) (cmd : Src → Cmd) : Except DecodeError Cmd :=
  if cmdKsel c = .key1 then .error .kselUnused else .ok (cmd (cmdSrc c))

/-- The command a word stands for, by the OP table of R93; total on all words. -/
def decodeCommand (c : Word) : Except DecodeError Cmd :=
  if cmdReserved c ≠ 0#26 then .error .reservedBits
  else match (cmdOp c).toNat with
    | 0x0 => decodePlain c .nop
    | 0x1 => decodeSrc c .sub
    | 0x2 => decodeSrc c .subi
    | 0x3 => .ok (.kxor (cmdKsel c) (cmdSrc c))
    | 0x4 => .ok (.rnd (cmdKsel c) (cmdSrc c))
    | 0x5 => .ok (.irnd (cmdKsel c) (cmdSrc c))
    | 0x6 => decodeSrc c .enc
    | 0x7 => decodeSrc c .enc2
    | 0x8 => if Config.hasDec then decodeSrc c .dec else .error .reservedOp
    | 0x9 => decodePlain c .sbchk
    | _ => .error .reservedOp

/-- The register at word address `addr`, the table of R21. -/
def Reg.ofAddr (addr : BitVec 4) : Reg :=
  match addr.toNat with
  | 0 => .cmd
  | 1 => .status
  | 2 => .ctrl
  | 3 => .id
  | 4 => .din
  | 5 => .dout
  | 6 => .key0
  | 7 => .key1
  | 8 => .rounds
  | 9 => .rsvd24
  | 10 => .sboxLo
  | 11 => .sboxHi
  | 12 => .isboxLo
  | 13 => .isboxHi
  | 14 => .rsvd38
  | _ => .rsvd3C

/-- The read transaction of a register: the BUS rows with `we = 0`. -/
def Reg.readInstr : Reg → Instr
  | .cmd => .rdCmd
  | .status => .rdStatus
  | .ctrl => .rdCtrl
  | .id => .rdId
  | .din => .rdDin
  | .dout => .rdDout
  | .key0 => .rdKey0
  | .key1 => .rdKey1
  | .rounds => .rdRounds
  | .rsvd24 => .rdRsvd24
  | .sboxLo => .rdSboxLo
  | .sboxHi => .rdSboxHi
  | .isboxLo => .rdIsboxLo
  | .isboxHi => .rdIsboxHi
  | .rsvd38 => .rdRsvd38
  | .rsvd3C => .rdRsvd3C

/-- The write transaction of a register: the BUS rows with `we = 1`. -/
def Reg.writeInstr (r : Reg) (v : Word) : Instr :=
  match r with
  | .cmd => .wrCmd v
  | .status => .wrStatus v
  | .ctrl => .wrCtrl v
  | .id => .wrId v
  | .din => .wrDin v
  | .dout => .wrDout v
  | .key0 => .wrKey0 v
  | .key1 => .wrKey1 v
  | .rounds => .wrRounds v
  | .rsvd24 => .wrRsvd24 v
  | .sboxLo => .wrSboxLo v
  | .sboxHi => .wrSboxHi v
  | .isboxLo => .wrIsboxLo v
  | .isboxHi => .wrIsboxHi v
  | .rsvd38 => .wrRsvd38 v
  | .rsvd3C => .wrRsvd3C v

/-- The transaction a selector and data word stand for; total, since all 32 selectors are legal (R91). A read takes no data
word, so `wdata` is ignored there. -/
def decodeTransaction (t : Selector) (wdata : Word) : Instr :=
  if t.getLsbD 4 then (Reg.ofAddr (t.extractLsb' 0 4)).writeInstr wdata
  else (Reg.ofAddr (t.extractLsb' 0 4)).readInstr

/-- The decoder of both levels (R90). Only a command word can be rejected, by name. -/
def decode : PortWord → Except DecodeError Instr
  | .command c => (decodeCommand c).map Cmd.toInstr
  | .transaction t wdata => .ok (decodeTransaction t wdata)

/-- The transaction performed for an encoded instruction the host presents: the decoded one, and for a command word that is
not legal the plain write of that word to CMD, which is how the port carries it (R99). -/
def PortWord.presented (p : PortWord) : Instr :=
  match decode p with
  | .ok i => i
  | .error _ => decodeTransaction p.signals.1 p.signals.2

/-! ## Encoding -/

def KSel.bit : KSel → BitVec 1
  | .key0 => 0#1
  | .key1 => 1#1

def Src.bit : Src → BitVec 1
  | .din => 0#1
  | .dout => 1#1

/-- The command format of R92: `{26'b0, SRC, KSEL, OP}`. -/
def commandWord (op : BitVec 4) (k : KSel) (src : Src) : Word := 0#26 ++ src.bit ++ k.bit ++ op

/-- The word of a command (R97); an operand field that the command does not use is 0. -/
def encodeCommand : Cmd → Word
  | .nop => commandWord 0x0#4 .key0 .din
  | .sub src => commandWord 0x1#4 .key0 src
  | .subi src => commandWord 0x2#4 .key0 src
  | .kxor k src => commandWord 0x3#4 k src
  | .rnd k src => commandWord 0x4#4 k src
  | .irnd k src => commandWord 0x5#4 k src
  | .enc src => commandWord 0x6#4 .key0 src
  | .enc2 src => commandWord 0x7#4 .key0 src
  | .dec src => commandWord 0x8#4 .key0 src
  | .sbchk => commandWord 0x9#4 .key0 .din

/-- The word address of a register (R21). -/
def Reg.addr : Reg → BitVec 4
  | .cmd => 0#4
  | .status => 1#4
  | .ctrl => 2#4
  | .id => 3#4
  | .din => 4#4
  | .dout => 5#4
  | .key0 => 6#4
  | .key1 => 7#4
  | .rounds => 8#4
  | .rsvd24 => 9#4
  | .sboxLo => 10#4
  | .sboxHi => 11#4
  | .isboxLo => 12#4
  | .isboxHi => 13#4
  | .rsvd38 => 14#4
  | .rsvd3C => 15#4

/-- The read transaction `{we = 0, addr}`; it carries no data, written as 0 here. -/
def Reg.readWord (r : Reg) : PortWord := .transaction (0#1 ++ r.addr) 0#32

/-- The write transaction `{we = 1, addr}` of data `v`. -/
def Reg.writeWord (r : Reg) (v : Word) : PortWord := .transaction (1#1 ++ r.addr) v

/-- The encoded form of an instruction, at the level of its row's format. -/
def encode : Instr → PortWord
  | .nop => .command (encodeCommand .nop)
  | .sub src => .command (encodeCommand (.sub src))
  | .subi src => .command (encodeCommand (.subi src))
  | .kxor k src => .command (encodeCommand (.kxor k src))
  | .rnd k src => .command (encodeCommand (.rnd k src))
  | .irnd k src => .command (encodeCommand (.irnd k src))
  | .enc src => .command (encodeCommand (.enc src))
  | .enc2 src => .command (encodeCommand (.enc2 src))
  | .dec src => .command (encodeCommand (.dec src))
  | .sbchk => .command (encodeCommand .sbchk)
  | .rdCmd => Reg.cmd.readWord
  | .rdStatus => Reg.status.readWord
  | .rdCtrl => Reg.ctrl.readWord
  | .rdId => Reg.id.readWord
  | .rdDin => Reg.din.readWord
  | .rdDout => Reg.dout.readWord
  | .rdKey0 => Reg.key0.readWord
  | .rdKey1 => Reg.key1.readWord
  | .rdRounds => Reg.rounds.readWord
  | .rdRsvd24 => Reg.rsvd24.readWord
  | .rdSboxLo => Reg.sboxLo.readWord
  | .rdSboxHi => Reg.sboxHi.readWord
  | .rdIsboxLo => Reg.isboxLo.readWord
  | .rdIsboxHi => Reg.isboxHi.readWord
  | .rdRsvd38 => Reg.rsvd38.readWord
  | .rdRsvd3C => Reg.rsvd3C.readWord
  | .wrCmd v => Reg.cmd.writeWord v
  | .wrStatus v => Reg.status.writeWord v
  | .wrCtrl v => Reg.ctrl.writeWord v
  | .wrId v => Reg.id.writeWord v
  | .wrDin v => Reg.din.writeWord v
  | .wrDout v => Reg.dout.writeWord v
  | .wrKey0 v => Reg.key0.writeWord v
  | .wrKey1 v => Reg.key1.writeWord v
  | .wrRounds v => Reg.rounds.writeWord v
  | .wrRsvd24 v => Reg.rsvd24.writeWord v
  | .wrSboxLo v => Reg.sboxLo.writeWord v
  | .wrSboxHi v => Reg.sboxHi.writeWord v
  | .wrIsboxLo v => Reg.isboxLo.writeWord v
  | .wrIsboxHi v => Reg.isboxHi.writeWord v
  | .wrRsvd38 v => Reg.rsvd38.writeWord v
  | .wrRsvd3C v => Reg.rsvd3C.writeWord v

/-! ## The opcode table's numbered bits -/

/-- The encoded instruction whose bits the opcode table numbers `w`: 32 bits are a command word (format `CMD`), 8 bits are
the selector of a transaction whose data word is 0 (format `BUS`), 40 bits are the selector's byte and then the data word.
The selector has 5 bits, so a selector byte above 31 is no transaction (notes/assumptions/4.md, DESIGN CHOICE). -/
def tablePortWord (nbits w : Nat) : Option PortWord :=
  if nbits = 32 then
    if w < 2 ^ 32 then some (.command (BitVec.ofNat 32 w)) else none
  else if nbits = 8 ∨ nbits = 40 then
    if w % 256 < 32 ∧ w < 2 ^ nbits then
      some (.transaction (BitVec.ofNat 5 (w % 256)) (BitVec.ofNat 32 (w / 256)))
    else none
  else none

/-- The instruction the decoder reads from bits `w` of the opcode table's numbering; none where it refuses. -/
def decodeTableWord (nbits w : Nat) : Option Instr :=
  match tablePortWord nbits w with
  | some p => (decode p).toOption
  | none => none

end Sys2Proof
end

