-- ==== Sys2Proof/Machine/State.lean ====
section
/-! DEFINITION. The state of the machine: SBC8 itself (`Device`, exactly the state 10_state.md R20 lists) and, beside it,
the environment the step reads: the reset pin, the host's pending program, the interleaving of the agents and the values
the host's reads returned (the MODEL's own fields, notes/assumptions/1.md, 2.md, 3.md). -/

namespace Sys2Proof.Machine

/-- What STATUS.ERR holds (R33, R201): the codes 5, 6 and 7 are never held. -/
inductive ErrCode where
  | none
  | invalidSbox
  | domain
  | illegalCmd
  | busy
deriving DecidableEq, Repr

/-- Which loop the engine runs, ENG_OP (R37); ENC2 runs as `enc` with a count of 2. -/
inductive EngOp where
  | idle
  | enc
  | dec
deriving DecidableEq, Repr

/-- The architectural state of SBC8 (R20, "exactly"). -/
structure Device where
  /-- SBOX, 16 entries of 4 bits (R22) -/
  sbox : Lut
  /-- ISBOX, 16 entries of 4 bits (R23) -/
  isbox : Lut
  /-- SBV, STATUS bit 2 (R24) -/
  sbv : Bool
  /-- KEY0 (R25) -/
  key0 : Block
  /-- KEY1 (R26) -/
  key1 : Block
  /-- DIN (R28) -/
  din : Block
  /-- DOUT (R29) -/
  dout : Block
  /-- ROUNDS (R27) -/
  rounds : RoundCount
  /-- CTRL.IE (R30) -/
  ie : Bool
  /-- STATUS.BUSY (R31) -/
  busy : Bool
  /-- STATUS.DONE (R32) -/
  done : Bool
  /-- STATUS.ERR (R33) -/
  err : ErrCode
  /-- ENG_OP, hidden (R37) -/
  engOp : EngOp
  /-- ENG_X, hidden: the running block (R37) -/
  engX : Block
  /-- ENG_I, hidden: the number of rounds performed (R37) -/
  engI : RoundCount
  /-- ENG_N, hidden: the number of rounds to perform (R37) -/
  engN : RoundCount
deriving DecidableEq, Repr

/-- Who moves in a step: the host issues its next transaction, the engine performs its next step (R216), or the pin
`rst_n` takes a level (R230, R231). -/
inductive Turn where
  | host
  | engine
  | rst (level : Bool)
deriving DecidableEq, Repr

/-- The machine and its environment. -/
structure State where
  /-- SBC8's own state (R20) -/
  dev : Device
  /-- the level of the input pin `rst_n`; false while reset is asserted (R231; MODEL's own field) -/
  rstN : Bool
  /-- the host program's lines not yet issued, the next one first (R80, R99; MODEL's own field) -/
  host : List HostLine
  /-- the interleaving still to come: who moves in the next step, and so on (R81; MODEL's own field) -/
  sched : List Turn
  /-- what the host's reads returned on `rdata`, the latest last; of a `WAIT` the read that ended it (R243; MODEL's own field) -/
  reads : List Word
deriving DecidableEq, Repr

/-- The faults of the machine: none. "SBC8 raises no trap, exception or bus error" (R200), so no step ends in a fault. -/
inductive Fault where
deriving DecidableEq, Repr

/-- The refusals of the machine. -/
inductive Refusal where
  /-- Raised only by an arm of `exec` whose instruction has no meaning yet: there is none. Safe: the machine stops. -/
  | notModelled (mnemonic : String)
deriving DecidableEq, Repr

/-- The reset state of SBC8 (R230, 10_state.md R21-R37). ENG_X, ENG_I and ENG_N are unspecified after reset and
93_implementation_defined.md I8 lets a model fix them to 0 (DESIGN CHOICE, notes/assumptions/5.md). -/
def Device.reset : Device where
  sbox := Config.resetSbox
  isbox := Config.resetIsbox
  sbv := true
  key0 := 0x00#8
  key1 := 0x00#8
  din := 0x00#8
  dout := 0x00#8
  rounds := 100#16
  ie := false
  busy := false
  done := false
  err := .none
  engOp := .idle
  engX := 0x00#8
  engI := 0#16
  engN := 0#16

/-- The machine right after reset: `rst_n` has returned to 1, the host has issued nothing and nothing is pending (R233). -/
def State.reset : State where
  dev := Device.reset
  rstN := true
  host := []
  sched := []
  reads := []

end Sys2Proof.Machine
end

