-- ==== Sys2Proof/Machine/Operands.lean ====
section
/-! DEFINITION. Operands: the source block and key selects of a command (R94, R96, R160), the fields of a written word, and
the packing of table entries into words (R55). -/

namespace Sys2Proof.Machine

/-- `src(c)`: DIN or DOUT, read at acceptance (R94). -/
def Device.source (d : Device) : Src → Block
  | .din => d.din
  | .dout => d.dout

/-- `KEY(c[4])`: KEY0 or KEY1 (R96). -/
def Device.key (d : Device) : KSel → Block
  | .key0 => d.key0
  | .key1 => d.key1

/-- The key select of round `i`: `keys[i mod 2]` (R7, R160). -/
def roundSel (i : Nat) : KSel := if i % 2 = 0 then .key0 else .key1

/-- `KEY(i mod 2)`, the key of round `i` (R160). -/
def Device.roundKey (d : Device) (i : Nat) : Block := d.key (roundSel i)

/-- `zext_32` of R11. -/
def zext {n : Nat} (v : BitVec n) : Word := v.zeroExtend 32

/-- A written word offers a Block when its bits [31:8] are 0 (R66, R69, R70). -/
def fitsBlock (v : Word) : Bool := v.extractLsb' 8 24 == 0#24

/-- A written word offers a round count when its bits [31:16] are 0 (R72, R73). -/
def fitsRounds (v : Word) : Bool := v.extractLsb' 16 16 == 0#16

/-- The Block in bits [7:0] (R54). -/
def blockOf (v : Word) : Block := v.extractLsb' 0 8

/-- The round count in bits [15:0] (R72). -/
def roundsOf (v : Word) : RoundCount := v.extractLsb' 0 16

/-- High nibble, bits [7:4] of a Block (R5, R120). -/
def hiNibble (b : Block) : Nibble := b.extractLsb' 4 4

/-- Low nibble, bits [3:0] of a Block (R5, R120). -/
def loNibble (b : Block) : Nibble := b.extractLsb' 0 4

/-- `T[n]`, the entry a nibble selects. -/
def lookup (T : Lut) (n : Nibble) : Nibble := T[n.toNat]'n.isLt

/-- Nibble `i` of a word, `v[4i+3:4i]` (R55). -/
def nibbleAt (v : Word) (i : Nat) : Nibble := v.extractLsb' (4 * i) 4

/-- `pack(T, b)` for a base `b` in {0, 8} (R55): entry `b+i` occupies bits [4i+3:4i]. -/
def pack (T : Lut) (b : Nat) : Word :=
  lookup T (BitVec.ofNat 4 (b + 7)) ++ lookup T (BitVec.ofNat 4 (b + 6)) ++ lookup T (BitVec.ofNat 4 (b + 5))
    ++ lookup T (BitVec.ofNat 4 (b + 4)) ++ lookup T (BitVec.ofNat 4 (b + 3)) ++ lookup T (BitVec.ofNat 4 (b + 2))
    ++ lookup T (BitVec.ofNat 4 (b + 1)) ++ lookup T (BitVec.ofNat 4 b)

/-- Unpacking a written word into entries `b..b+7`, the other entries kept (R55, R74, R75). -/
def unpackInto (T : Lut) (b : Nat) (v : Word) : Lut :=
  Vector.ofFn fun j => if b ≤ j.val ∧ j.val < b + 8 then nibbleAt v (j.val - b) else T[j]

end Sys2Proof.Machine
end

