-- ==== Sys2Proof/Machine/Flags.lean ====
section
/-! DEFINITION. STATUS, its fields and `irq`: every way a flag changes (R31-R34, R38, R111, R201, R210). -/

namespace Sys2Proof.Machine

/-- The 3-bit code of an error (R201). -/
def ErrCode.code : ErrCode → BitVec 3
  | .none => 0#3
  | .invalidSbox => 1#3
  | .domain => 2#3
  | .illegalCmd => 3#3
  | .busy => 4#3

/-- STATUS as a read returns it: `{25'b0, ERR[2:0], 1'b0, SBV, DONE, BUSY}` (R34). -/
def Device.statusWord (d : Device) : Word :=
  0#25 ++ d.err.code ++ 0#1 ++ BitVec.ofBool d.sbv ++ BitVec.ofBool d.done ++ BitVec.ofBool d.busy

/-- `irq` = CTRL.IE AND STATUS.DONE, a level (R38). -/
def Device.irq (d : Device) : Bool := d.ie && d.done

/-- `raise E`: STATUS.ERR takes the code and nothing else changes (R15, R68). This is SBC8's whole error entry: no trap is
taken and no state is saved (R212). -/
def Device.raise (e : ErrCode) (d : Device) : Device := { d with err := e }

/-- Acceptance of a command: ERR and DONE are cleared (R111). -/
def Device.accept (d : Device) : Device := { d with err := .none, done := false }

/-- A command completes: DONE is set (R32). -/
def Device.complete (d : Device) : Device := { d with done := true }

/-- An accepted command is refused: the error's code, and DONE (R112, R113, R200). -/
def Device.refuse (e : ErrCode) (d : Device) : Device := (d.raise e).complete

/-- A command completes with a result block in DOUT (R29, R114, R167). -/
def Device.deliver (b : Block) (d : Device) : Device := { d with dout := b, done := true }

/-- A host write of `v` to STATUS: DONE is cleared where bit 1 is 1, and nothing else changes (R62, R63). -/
def Device.writeStatus (v : Word) (d : Device) : Device :=
  if v.getLsbD 1 then { d with done := false } else d

end Sys2Proof.Machine
end

