-- ==== Sys2Proof/Machine/Ops.lean ====
section
/-! DEFINITION. The named operations every meaning is built from: the cipher's functions (R120-R122, R140, R141, R160,
R161), the command lifecycle (R110-R113), register reads and writes (R59-R78), the engine's steps (R165-R167), and the
turns of the agents. SBC8 has no trap entry and no return (R212, R213): `Device.raise` and `Device.refuse` of Flags.lean are
the whole of its error handling. -/

namespace Sys2Proof.Machine

/-! ## The cipher -/

/-- `sub(b, T) = { T[b[7:4]], T[b[3:0]] }` (R120). -/
def sub (b : Block) (T : Lut) : Block := lookup T (hiNibble b) ++ lookup T (loNibble b)

/-- `bijective(T)`: the 16 entries are pairwise distinct (R121). -/
def bijective (T : Lut) : Bool := decide T.toList.Nodup

/-- `invert(T)`: entry `v` is the index of `v` in `T` (R122); applied only to a bijective `T`. -/
def invert (T : Lut) : Lut := Vector.ofFn fun v => BitVec.ofNat 4 (T.toList.idxOf (BitVec.ofNat 4 v.val))

/-- `round(x, k) = sub(x ^ k, SBOX)` (R140). -/
def Device.round (d : Device) (x k : Block) : Block := sub (x ^^^ k) d.sbox

/-- `iround(y, k) = sub(y, ISBOX) ^ k` (R141). -/
def Device.iround (d : Device) (y k : Block) : Block := sub y d.isbox ^^^ k

/-- `encrypt(p, n)`: rounds 0 to n-1 in order (R160). -/
def Device.encrypt (d : Device) (p : Block) : Nat → Block
  | 0 => p
  | n + 1 => d.round (d.encrypt p n) (d.roundKey n)

/-- `decrypt(c, n)`: inverse rounds n-1 down to 0 (R161). -/
def Device.decrypt (d : Device) (c : Block) : Nat → Block
  | 0 => c
  | n + 1 => d.decrypt (d.iround c (d.roundKey n)) n

/-! ## The machine's state under a device operation -/

/-- SBC8 changes, the environment does not. -/
def State.onDev (f : Device → Device) (s : State) : State := { s with dev := f s.dev }

/-- A read returns `v` on `rdata`: SBC8 does not change (R58, R59). -/
def State.returnRead (v : Word) (s : State) : State := { s with reads := s.reads ++ [v] }

/-! ## The command lifecycle -/

/-- R110 for a legal word: the busy check, acceptance, the table check of a command that reads a LUT, the operation. -/
def runCommand (needsLut : Bool) (op : Device → Device) (d : Device) : Device :=
  if d.busy then d.raise .busy
  else if needsLut && !d.sbv then d.accept.refuse .invalidSbox
  else op d.accept

/-- R110 for a word that is not legal: the busy check, acceptance, ILLEGAL_CMD (R112). -/
def illegalCommand (d : Device) : Device :=
  if d.busy then d.raise .busy else d.accept.refuse .illegalCmd

/-- The engine is loaded with a loop, a block and a count, and BUSY is set (R162-R164). -/
def Device.startEngine (op : EngOp) (x : Block) (n : RoundCount) (d : Device) : Device :=
  { d with engOp := op, engX := x, engI := 0#16, engN := n, busy := true }

/-- SBCHK after acceptance: a bijective SBOX is inverted into ISBOX and SBV set, any other is INVALID_SBOX (R125). -/
def checkSbox (d : Device) : Device :=
  if bijective d.sbox then { d with isbox := invert d.sbox, sbv := true, done := true }
  else d.refuse .invalidSbox

/-! ## Register reads and writes -/

/-- `BusRead`, the whole table of R59. -/
def busRead (r : Reg) (d : Device) : Word :=
  match r with
  | .cmd => 0x00000000#32
  | .status => d.statusWord
  | .ctrl => zext (BitVec.ofBool d.ie)
  | .id => Config.idWord
  | .din => zext d.din
  | .dout => zext d.dout
  | .key0 => zext d.key0
  | .key1 => zext d.key1
  | .rounds => zext d.rounds
  | .rsvd24 => 0x00000000#32
  | .sboxLo => pack d.sbox 0
  | .sboxHi => pack d.sbox 8
  | .isboxLo => pack d.isbox 0
  | .isboxHi => pack d.isbox 8
  | .rsvd38 => 0x00000000#32
  | .rsvd3C => 0x00000000#32

/-- A write to a configuration register: refused with BUSY while the engine runs, with DOMAIN where the word is wider than
the register, else performed (R66, R69, R70, R72, R74, R75, R208). -/
def guardedWrite (fits : Bool) (store : Device → Device) (d : Device) : Device :=
  if d.busy then d.raise .busy else if fits then store d else d.raise .domain

/-- A new half of SBOX, which is not validated: SBV is cleared (R74, R75). -/
def Device.loadSbox (b : Nat) (v : Word) (d : Device) : Device :=
  { d with sbox := unpackInto d.sbox b v, sbv := false }

/-! ## The engine (43_engine.md section 3) -/

/-- Forward step, R165. -/
def engineForward (d : Device) : Device :=
  { d with engX := d.round d.engX (d.roundKey d.engI.toNat), engI := d.engI + 1#16 }

/-- Inverse step, R166: it undoes round `j = ENG_N - 1 - ENG_I`. -/
def engineInverse (d : Device) : Device :=
  { d with engX := d.iround d.engX (d.roundKey (d.engN - 1#16 - d.engI).toNat), engI := d.engI + 1#16 }

/-- Completion step, R167. -/
def engineComplete (d : Device) : Device :=
  { d with dout := d.engX, engOp := .idle, busy := false, done := true }

/-- An engine step is enabled: R165-R167. -/
def engineEnabled (d : Device) : Bool := d.engOp != .idle && d.engI ≤ d.engN

/-- The engine step that is enabled, if one is; otherwise the engine does nothing. -/
def engineStep (d : Device) : Device :=
  if d.engI < d.engN then
    match d.engOp with
    | .idle => d
    | .enc => engineForward d
    | .dec => engineInverse d
  else if d.engI = d.engN ∧ d.engOp ≠ .idle then engineComplete d
  else d

/-! ## The turns of the agents -/

/-- The engine's turn; it takes no step while `rst_n = 0` (R231). -/
def engineTurn (s : State) : State := if s.rstN then s.onDev engineStep else s

/-- The pin `rst_n` takes a level. While it is 0 and when it returns to 1 every piece of SBC8's state has its reset value
(R230, R232); a pin that was 1 and stays 1 does nothing. -/
def rstTurn (level : Bool) (s : State) : State :=
  { s with rstN := level, dev := if level && s.rstN then s.dev else Device.reset }

/-- Who moves once the given interleaving is used up: the engine while one of its steps is enabled, else the host
(DESIGN CHOICE, notes/assumptions/2.md). -/
def defaultTurn (s : State) : Turn := if s.rstN && engineEnabled s.dev then .engine else .host

/-- Whose turn it is. -/
def State.turn (s : State) : Turn :=
  match s.sched with
  | [] => defaultTurn s
  | t :: _ => t

/-- The state with this turn of the interleaving used up. -/
def State.takeTurn (s : State) : State := { s with sched := s.sched.tail }

/-- The host's poll of `WAIT`, a read of STATUS (R100). The line stays while bit 0 (BUSY) is 1. The poll that reads 0 there ends
it, and its value is recorded like that of any other read; the polls before it, whose number is no part of a run's observation
(R243), are not recorded (notes/assumptions/3.md). No read is performed while `rst_n = 0` (R231), so the line stays then too
(notes/assumptions/6.md). -/
def pollWait (rest : List HostLine) (s : State) : State :=
  let value := busRead .status s.dev
  if s.rstN && !value.getLsbD 0 then { s.returnRead value with host := rest } else s

/-- The state in which the host issues `p` in the very next step: `p` is its next line, the next turn is the host's, and
reset is not asserted. -/
def State.withPortWord (s : State) (p : PortWord) : State :=
  { s with rstN := true, host := .word p :: s.host, sched := .host :: s.sched }

end Sys2Proof.Machine
end

