-- ==== Sys2Proof/Machine/BusRead.lean ====
section
/-! DEFINITION. The bus reads (20_memory.md section 3): each returns its row of `busRead` and changes nothing in SBC8 (R59),
whether or not the engine runs. -/

namespace Sys2Proof.Machine

/-- CMD reads 0 (R36). -/
def execRdCmd (s : State) : Host.Outcome State Fault Refusal := .next (s.returnRead (busRead .cmd s.dev))

/-- STATUS reads its fields (R34). -/
def execRdStatus (s : State) : Host.Outcome State Fault Refusal := .next (s.returnRead (busRead .status s.dev))

/-- CTRL reads IE, bits [31:1] read 0 (R30). -/
def execRdCtrl (s : State) : Host.Outcome State Fault Refusal := .next (s.returnRead (busRead .ctrl s.dev))

/-- ID reads its constant (R35). -/
def execRdId (s : State) : Host.Outcome State Fault Refusal := .next (s.returnRead (busRead .id s.dev))

/-- DIN (R28). -/
def execRdDin (s : State) : Host.Outcome State Fault Refusal := .next (s.returnRead (busRead .din s.dev))

/-- DOUT, while BUSY = 1 the value from before the command (R29). -/
def execRdDout (s : State) : Host.Outcome State Fault Refusal := .next (s.returnRead (busRead .dout s.dev))

/-- KEY0 is readable (R71). -/
def execRdKey0 (s : State) : Host.Outcome State Fault Refusal := .next (s.returnRead (busRead .key0 s.dev))

/-- KEY1 is readable (R71). -/
def execRdKey1 (s : State) : Host.Outcome State Fault Refusal := .next (s.returnRead (busRead .key1 s.dev))

/-- ROUNDS (R27). -/
def execRdRounds (s : State) : Host.Outcome State Fault Refusal := .next (s.returnRead (busRead .rounds s.dev))

/-- offset 0x24 is reserved and reads 0 (R53). -/
def execRdRsvd24 (s : State) : Host.Outcome State Fault Refusal := .next (s.returnRead (busRead .rsvd24 s.dev))

/-- SBOX entries 0..7 (R55). -/
def execRdSboxLo (s : State) : Host.Outcome State Fault Refusal := .next (s.returnRead (busRead .sboxLo s.dev))

/-- SBOX entries 8..15 (R55). -/
def execRdSboxHi (s : State) : Host.Outcome State Fault Refusal := .next (s.returnRead (busRead .sboxHi s.dev))

/-- ISBOX entries 0..7 (R55). -/
def execRdIsboxLo (s : State) : Host.Outcome State Fault Refusal := .next (s.returnRead (busRead .isboxLo s.dev))

/-- ISBOX entries 8..15 (R55). -/
def execRdIsboxHi (s : State) : Host.Outcome State Fault Refusal := .next (s.returnRead (busRead .isboxHi s.dev))

/-- offset 0x38 is reserved and reads 0 (R53). -/
def execRdRsvd38 (s : State) : Host.Outcome State Fault Refusal := .next (s.returnRead (busRead .rsvd38 s.dev))

/-- offset 0x3C is reserved and reads 0 (R53). -/
def execRdRsvd3C (s : State) : Host.Outcome State Fault Refusal := .next (s.returnRead (busRead .rsvd3C s.dev))

end Sys2Proof.Machine
end

