-- ==== Sys2Proof/Machine/Command.lean ====
section
/-! DEFINITION. The command family (40_command.md): NOP. -/

namespace Sys2Proof.Machine

/-- NOP: acceptance, then completion; never INVALID_SBOX (R116). -/
def execNop (s : State) : Host.Outcome State Fault Refusal := .next (s.onDev (runCommand false Device.complete))

end Sys2Proof.Machine
end

