-- ==== Sys2Proof/Machine/Engine.lean ====
section
/-! DEFINITION. The cipher engine family (43_engine.md): the acceptance of ENC, ENC2 and DEC. The engine's own steps are
`engineStep` of Ops.lean. -/

namespace Sys2Proof.Machine

/-- ENC: the engine is started for ROUNDS forward rounds (R162). -/
def execEnc (src : Src) (s : State) : Host.Outcome State Fault Refusal :=
  .next (s.onDev (runCommand true fun d => d.startEngine .enc (d.source src) d.rounds))

/-- ENC2: the engine is started for 2 forward rounds; ROUNDS is not read (R163). -/
def execEnc2 (src : Src) (s : State) : Host.Outcome State Fault Refusal :=
  .next (s.onDev (runCommand true fun d => d.startEngine .enc (d.source src) 2#16))

/-- DEC: the engine is started for ROUNDS inverse rounds (R164). -/
def execDec (src : Src) (s : State) : Host.Outcome State Fault Refusal :=
  .next (s.onDev (runCommand true fun d => d.startEngine .dec (d.source src) d.rounds))

end Sys2Proof.Machine
end

