-- ==== Sys2Proof/Machine/Round.lean ====
section
/-! DEFINITION. The round family (42_round.md): KXOR, RND, IRND. -/

namespace Sys2Proof.Machine

/-- KXOR: `DOUT <- s ^ KEY(KSEL)`, with no table check (R143). -/
def execKxor (k : KSel) (src : Src) (s : State) : Host.Outcome State Fault Refusal :=
  .next (s.onDev (runCommand false fun d => d.deliver (d.source src ^^^ d.key k)))

/-- RND: `DOUT <- round(s, KEY(KSEL))` (R144). -/
def execRnd (k : KSel) (src : Src) (s : State) : Host.Outcome State Fault Refusal :=
  .next (s.onDev (runCommand true fun d => d.deliver (d.round (d.source src) (d.key k))))

/-- IRND: `DOUT <- iround(s, KEY(KSEL))` (R145). -/
def execIrnd (k : KSel) (src : Src) (s : State) : Host.Outcome State Fault Refusal :=
  .next (s.onDev (runCommand true fun d => d.deliver (d.iround (d.source src) (d.key k))))

end Sys2Proof.Machine
end

