-- ==== Sys2Proof/Machine/Sbox.lean ====
section
/-! DEFINITION. The S-box family (41_sbox.md): SBCHK, SUB, SUBI. -/

namespace Sys2Proof.Machine

/-- SUB: `DOUT <- sub(s, SBOX)` (R126). -/
def execSub (src : Src) (s : State) : Host.Outcome State Fault Refusal :=
  .next (s.onDev (runCommand true fun d => d.deliver (sub (d.source src) d.sbox)))

/-- SUBI: `DOUT <- sub(s, ISBOX)` (R127). -/
def execSubi (src : Src) (s : State) : Host.Outcome State Fault Refusal :=
  .next (s.onDev (runCommand true fun d => d.deliver (sub (d.source src) d.isbox)))

/-- SBCHK: SBOX is validated and inverted; it is not subject to the table check (R113, R125). -/
def execSbchk (s : State) : Host.Outcome State Fault Refusal := .next (s.onDev (runCommand false checkSbox))

end Sys2Proof.Machine
end

