-- ==== Sys2Proof/Machine/BusWrite.lean ====
section
/-! DEFINITION. The bus writes (20_memory.md section 4): exactly one rule applies to each offset (R60). -/

namespace Sys2Proof.Machine

/-- A legal command presented at CMD: the `case op of` of R110. -/
def execCommand (c : Cmd) (s : State) : Host.Outcome State Fault Refusal :=
  match c with
  | .nop => execNop s
  | .sub src => execSub src s
  | .subi src => execSubi src s
  | .kxor k src => execKxor k src s
  | .rnd k src => execRnd k src s
  | .irnd k src => execIrnd k src s
  | .enc src => execEnc src s
  | .enc2 src => execEnc2 src s
  | .dec src => execDec src s
  | .sbchk => execSbchk s

/-- Write to CMD: the word is decoded and acted on in the same transaction (R36, R61, R110); one that is not legal is
refused with ILLEGAL_CMD (R112). -/
def execWrCmd (v : Word) (s : State) : Host.Outcome State Fault Refusal :=
  match decodeCommand v with
  | .ok c => execCommand c s
  | .error _ => .next (s.onDev illegalCommand)

/-- Write to STATUS: only DONE can change (R62, R63); performed while BUSY too. -/
def execWrStatus (v : Word) (s : State) : Host.Outcome State Fault Refusal := .next (s.onDev (Device.writeStatus v))

/-- Write to CTRL: `CTRL.IE <- v[0]` (R64); performed while BUSY too. -/
def execWrCtrl (v : Word) (s : State) : Host.Outcome State Fault Refusal :=
  .next (s.onDev fun d => { d with ie := v.getLsbD 0 })

/-- Write to ID: no effect, no error (R65). -/
def execWrId (_v : Word) (s : State) : Host.Outcome State Fault Refusal := .next s

/-- Write to DIN (R66). -/
def execWrDin (v : Word) (s : State) : Host.Outcome State Fault Refusal :=
  .next (s.onDev (guardedWrite (fitsBlock v) fun d => { d with din := blockOf v }))

/-- Write to DOUT: no effect, no error (R67). -/
def execWrDout (_v : Word) (s : State) : Host.Outcome State Fault Refusal := .next s

/-- Write to KEY0 (R69). -/
def execWrKey0 (v : Word) (s : State) : Host.Outcome State Fault Refusal :=
  .next (s.onDev (guardedWrite (fitsBlock v) fun d => { d with key0 := blockOf v }))

/-- Write to KEY1 (R70). -/
def execWrKey1 (v : Word) (s : State) : Host.Outcome State Fault Refusal :=
  .next (s.onDev (guardedWrite (fitsBlock v) fun d => { d with key1 := blockOf v }))

/-- Write to ROUNDS: every 16-bit value is legal (R72, R73). -/
def execWrRounds (v : Word) (s : State) : Host.Outcome State Fault Refusal :=
  .next (s.onDev (guardedWrite (fitsRounds v) fun d => { d with rounds := roundsOf v }))

/-- Write to the reserved offset 0x24: no effect, no error (R77). -/
def execWrRsvd24 (_v : Word) (s : State) : Host.Outcome State Fault Refusal := .next s

/-- Write to SBOX_LO: every word is accepted, entries 0..7 are loaded and SBV is cleared (R74). -/
def execWrSboxLo (v : Word) (s : State) : Host.Outcome State Fault Refusal :=
  .next (s.onDev (guardedWrite true (Device.loadSbox 0 v)))

/-- Write to SBOX_HI: entries 8..15 are loaded and SBV is cleared (R75). -/
def execWrSboxHi (v : Word) (s : State) : Host.Outcome State Fault Refusal :=
  .next (s.onDev (guardedWrite true (Device.loadSbox 8 v)))

/-- Write to ISBOX_LO: no effect, no error (R76). -/
def execWrIsboxLo (_v : Word) (s : State) : Host.Outcome State Fault Refusal := .next s

/-- Write to ISBOX_HI: no effect, no error (R76). -/
def execWrIsboxHi (_v : Word) (s : State) : Host.Outcome State Fault Refusal := .next s

/-- Write to the reserved offset 0x38: no effect, no error (R77). -/
def execWrRsvd38 (_v : Word) (s : State) : Host.Outcome State Fault Refusal := .next s

/-- Write to the reserved offset 0x3C: no effect, no error (R77). -/
def execWrRsvd3C (_v : Word) (s : State) : Host.Outcome State Fault Refusal := .next s

end Sys2Proof.Machine
end

