-- ==== Sys2Proof/Machine/Dispatch.lean ====
section
/-! DEFINITION. The dispatch: one meaning per instruction. -/

namespace Sys2Proof.Machine

/-- The meaning of an instruction: the effect of its transaction, performed as one atomic step (R57). -/
def exec (i : Instr) (s : State) : Host.Outcome State Fault Refusal :=
  match i with
  | .nop => Sys2Proof.Machine.execNop s
  | .sub src => Sys2Proof.Machine.execSub src s
  | .subi src => Sys2Proof.Machine.execSubi src s
  | .kxor k src => Sys2Proof.Machine.execKxor k src s
  | .rnd k src => Sys2Proof.Machine.execRnd k src s
  | .irnd k src => Sys2Proof.Machine.execIrnd k src s
  | .enc src => Sys2Proof.Machine.execEnc src s
  | .enc2 src => Sys2Proof.Machine.execEnc2 src s
  | .dec src => Sys2Proof.Machine.execDec src s
  | .sbchk => Sys2Proof.Machine.execSbchk s
  | .rdCmd => Sys2Proof.Machine.execRdCmd s
  | .rdStatus => Sys2Proof.Machine.execRdStatus s
  | .rdCtrl => Sys2Proof.Machine.execRdCtrl s
  | .rdId => Sys2Proof.Machine.execRdId s
  | .rdDin => Sys2Proof.Machine.execRdDin s
  | .rdDout => Sys2Proof.Machine.execRdDout s
  | .rdKey0 => Sys2Proof.Machine.execRdKey0 s
  | .rdKey1 => Sys2Proof.Machine.execRdKey1 s
  | .rdRounds => Sys2Proof.Machine.execRdRounds s
  | .rdRsvd24 => Sys2Proof.Machine.execRdRsvd24 s
  | .rdSboxLo => Sys2Proof.Machine.execRdSboxLo s
  | .rdSboxHi => Sys2Proof.Machine.execRdSboxHi s
  | .rdIsboxLo => Sys2Proof.Machine.execRdIsboxLo s
  | .rdIsboxHi => Sys2Proof.Machine.execRdIsboxHi s
  | .rdRsvd38 => Sys2Proof.Machine.execRdRsvd38 s
  | .rdRsvd3C => Sys2Proof.Machine.execRdRsvd3C s
  | .wrCmd v => Sys2Proof.Machine.execWrCmd v s
  | .wrStatus v => Sys2Proof.Machine.execWrStatus v s
  | .wrCtrl v => Sys2Proof.Machine.execWrCtrl v s
  | .wrId v => Sys2Proof.Machine.execWrId v s
  | .wrDin v => Sys2Proof.Machine.execWrDin v s
  | .wrDout v => Sys2Proof.Machine.execWrDout v s
  | .wrKey0 v => Sys2Proof.Machine.execWrKey0 v s
  | .wrKey1 v => Sys2Proof.Machine.execWrKey1 v s
  | .wrRounds v => Sys2Proof.Machine.execWrRounds v s
  | .wrRsvd24 v => Sys2Proof.Machine.execWrRsvd24 v s
  | .wrSboxLo v => Sys2Proof.Machine.execWrSboxLo v s
  | .wrSboxHi v => Sys2Proof.Machine.execWrSboxHi v s
  | .wrIsboxLo v => Sys2Proof.Machine.execWrIsboxLo v s
  | .wrIsboxHi v => Sys2Proof.Machine.execWrIsboxHi v s
  | .wrRsvd38 v => Sys2Proof.Machine.execWrRsvd38 v s
  | .wrRsvd3C v => Sys2Proof.Machine.execWrRsvd3C v s

end Sys2Proof.Machine
end

