-- ==== Sys2Proof/Machine/Agents.lean ====
section
/-! DEFINITION. The turn of the host (R80, R216): it issues the next line of its program. The turns of the engine and of the
pin `rst_n` are in Ops.lean. -/

namespace Sys2Proof.Machine

/-- The host's turn. It has issued everything (nothing happens, R233), or it issues a transaction, or it polls STATUS for
`WAIT`. A transaction issued while `rst_n = 0` is not performed: `sel` is ignored (R231). -/
def hostTurn (s : State) : Host.Outcome State Fault Refusal :=
  match s.host with
  | [] => .next s
  | .word p :: rest => if s.rstN then exec p.presented { s with host := rest } else .next { s with host := rest }
  | .wait :: rest => .next (pollWait rest s)

end Sys2Proof.Machine
end

