-- ==== Sys2Proof/Machine/Step.lean ====
section
/-! DEFINITION. One step of the machine: the agent whose turn it is moves (R81, R209). -/

namespace Sys2Proof.Machine

/-- One step: a host transaction, an engine step or a change of `rst_n`, each atomic (R57). -/
def step (s : State) : Host.Outcome State Fault Refusal :=
  match s.turn with
  | .host => hostTurn s.takeTurn
  | .engine => .next (engineTurn s.takeTurn)
  | .rst level => .next (rstTurn level s.takeTurn)

/-- `s` with the instruction whose bits the opcode table numbers `w` as the host's next line, in a state whose next turn is
the host's (notes/assumptions/4.md); `s` itself where `w` is no encoded instruction. -/
def State.withFetchWord (s : State) (nbits w : Nat) : State :=
  match tablePortWord nbits w with
  | some p => s.withPortWord p
  | none => s

end Sys2Proof.Machine
end

