-- ==== Sys2Proof/Machine/Pseudo.lean ====
section
/-! DEFINITION. The pseudo-instructions of the host-program syntax (R100) as the lines they expand to; `WAIT` is a line of
its own (`HostLine.wait`). -/

namespace Sys2Proof.Machine

/-- `CMD <mnemonic>` (R99). -/
def cmdLine (c : Cmd) : HostLine := .word (.command (encodeCommand c))

/-- `WR <reg>, <value>` (R99). -/
def wrLine (r : Reg) (v : Word) : HostLine := .word (r.writeWord v)

/-- `RD <reg>` (R99). -/
def rdLine (r : Reg) : HostLine := .word r.readWord

/-- `ACK`: clears DONE, hence `irq`. -/
def ackLines : List HostLine := [wrLine .status 0x00000002#32]

/-- `CLRERR`: a NOP, whose acceptance clears ERR. -/
def clrErrLines : List HostLine := [cmdLine .nop]

/-- `LOADSB t0,...,t15`: both halves of the table, then SBCHK (R236). -/
def loadSbLines (T : Lut) : List HostLine := [wrLine .sboxLo (pack T 0), wrLine .sboxHi (pack T 8), cmdLine .sbchk]

end Sys2Proof.Machine
end

