-- ==== Sys2Proof/Safety.lean ====
section
/-! DEFINITION. What statements about runs are made of: the invariant of SBC8, the engine's commands in flight, a run of
several instructions, and the end and the observation of a run (R243). -/

namespace Sys2Proof

/-- A host transaction that starts a command: a command, or any write to CMD (R61). -/
def Instr.presentsCommand : Instr → Bool
  | .nop | .sub _ | .subi _ | .kxor _ _ | .rnd _ _ | .irnd _ _ | .enc _ | .enc2 _ | .dec _ | .sbchk | .wrCmd _ => true
  | _ => false

/-- The command an instruction presents, if its word is legal: a `CMD` row's own, or the one a written word stands for. -/
def Instr.command? : Instr → Option Cmd
  | .nop => some .nop
  | .sub src => some (.sub src)
  | .subi src => some (.subi src)
  | .kxor k src => some (.kxor k src)
  | .rnd k src => some (.rnd k src)
  | .irnd k src => some (.irnd k src)
  | .enc src => some (.enc src)
  | .enc2 src => some (.enc2 src)
  | .dec src => some (.dec src)
  | .sbchk => some .sbchk
  | .wrCmd v => (decodeCommand v).toOption
  | _ => none

/-- A command that reads a LUT, and so is subject to the table check (R93, R113). -/
def Cmd.readsLut : Cmd → Bool
  | .sub _ | .subi _ | .rnd _ _ | .irnd _ _ | .enc _ | .enc2 _ | .dec _ => true
  | .nop | .kxor _ _ | .sbchk => false

/-- A command whose result reaches DOUT within its CMD write (R114). -/
def Cmd.deliversAtOnce : Cmd → Bool
  | .sub _ | .subi _ | .kxor _ _ | .rnd _ _ | .irnd _ _ => true
  | .nop | .enc _ | .enc2 _ | .dec _ | .sbchk => false

end Sys2Proof

namespace Sys2Proof.Machine

/-- SBOX is committed: SBV = 1 means a bijection whose inverse ISBOX holds (R24, R123). -/
def Device.Committed (d : Device) : Prop := bijective d.sbox = true ∧ d.isbox = invert d.sbox

/-- What every reachable state of SBC8 satisfies. -/
structure Device.Inv (d : Device) : Prop where
  /-- "BUSY = 1 exactly when ENG_OP != IDLE" (R37) -/
  busy_iff : d.busy = true ↔ d.engOp ≠ .idle
  /-- "ENG_I <= ENG_N" while the engine runs (R165) -/
  count_le : d.busy = true → d.engI ≤ d.engN
  /-- while BUSY = 1, DONE is 0 (R63, R110, R111) -/
  busy_not_done : d.busy = true → d.done = false
  /-- the engine runs only on a committed table (R113, R78) -/
  busy_sbv : d.busy = true → d.sbv = true
  /-- the LUT invariant (R123) -/
  lut : d.sbv = true → d.Committed
  /-- ISBOX is always an inverse: "after a failed SBCHK, ISBOX still holds the inverse of the last table that passed" (R125) -/
  isbox_bijective : bijective d.isbox = true

/-- The invariant of the machine: SBC8's, and its reset values while `rst_n = 0` (R230). -/
structure Inv (s : State) : Prop where
  dev : s.dev.Inv
  reset_held : s.rstN = false → s.dev = Device.reset

/-- The engine is computing `encrypt(p, n)`: BUSY, and ENG_X holds the block after ENG_I rounds (R160, R165). -/
structure Device.Encrypting (p : Block) (n : RoundCount) (d : Device) : Prop where
  busy : d.busy = true
  op : d.engOp = .enc
  count : d.engN = n
  le : d.engI ≤ n
  block : d.engX = d.encrypt p d.engI.toNat

/-- The engine is computing `decrypt(c, n)`: BUSY, and the rounds still to undo take ENG_X to it (R161, R166). -/
structure Device.Decrypting (c : Block) (n : RoundCount) (d : Device) : Prop where
  busy : d.busy = true
  op : d.engOp = .dec
  count : d.engN = n
  le : d.engI ≤ n
  block : d.decrypt d.engX (n.toNat - d.engI.toNat) = d.decrypt c n.toNat

/-- The engine is computing the result `r` in `n` rounds: it encrypts or decrypts some block, and `r` is what that gives
under the configuration the device holds (R162-R164, R168). -/
def Device.Computing (r : Block) (n : RoundCount) (d : Device) : Prop :=
  (∃ p, d.Encrypting p n ∧ r = d.encrypt p n.toNat) ∨ (∃ c, d.Decrypting c n ∧ r = d.decrypt c n.toNat)

/-- Two devices hold the same configuration: KEY0, KEY1, SBOX, ISBOX, ROUNDS (R78, R168). -/
def Device.sameConfig (d e : Device) : Prop :=
  d.key0 = e.key0 ∧ d.key1 = e.key1 ∧ d.sbox = e.sbox ∧ d.isbox = e.isbox ∧ d.rounds = e.rounds

/-- Instructions performed one after another, with no other step between them. -/
def execAll : List Instr → State → Host.Outcome State Fault Refusal
  | [], s => .next s
  | i :: is, s =>
    match exec i s with
    | .next t => execAll is t
    | .fault r => .fault r
    | .refused r => .refused r

/-- `k` steps of the machine. -/
def runSteps (k : Nat) (s : State) : Host.Outcome State Fault Refusal := Host.Core.run Sys2Proof.core k s

/-- A run has ended: the host has issued its last transaction and the engine is idle (R243). -/
def Finished (s : State) : Prop := s.host = [] ∧ s.dev.busy = false ∧ s.dev.engOp = .idle

/-- The observation of a run: every register as BusRead would return it, and the values the host's reads returned (R243). -/
def observe (s : State) : List Word × List Word :=
  ([Reg.cmd, .status, .ctrl, .id, .din, .dout, .key0, .key1, .rounds, .rsvd24, .sboxLo, .sboxHi, .isboxLo, .isboxHi,
    .rsvd38, .rsvd3C].map (busRead · s.dev), s.reads)

/-- What R110-R113 say of one command `i` with operation code `op`: refused with BUSY while the engine runs; refused with
INVALID_SBOX where it reads a LUT and SBV = 0; else it takes SBC8 to `result`; and a word with its operation code that is
not legal is refused with ILLEGAL_CMD. In each case everything not named keeps its value. -/
def ObeysLifecycle (i : Instr) (op : Nat) (needsLut : Bool) (result : Device → Device) : Prop :=
  (∀ s : State, s.dev.busy = true → exec i s = .next { s with dev := { s.dev with err := .busy } }) ∧
  (∀ s : State, s.dev.busy = false → needsLut = true → s.dev.sbv = false →
    exec i s = .next { s with dev := { s.dev with err := .invalidSbox, done := true } }) ∧
  (∀ s : State, s.dev.busy = false → (needsLut = true → s.dev.sbv = true) →
    exec i s = .next { s with dev := result s.dev }) ∧
  (∀ (c : Word) (s : State), s.dev.busy = false → c.toNat % 16 = op → legal c = false →
    exec (.wrCmd c) s = .next { s with dev := { s.dev with err := .illegalCmd, done := true } })

/-- The instruction the machine performs in its next step: the one the host issues, if it is the host's turn, reset is not
asserted and its next line is a transaction. -/
def State.issues (s : State) : Option Instr :=
  match s.turn, s.rstN, s.host with
  | .host, true, .word p :: _ => some p.presented
  | _, _, _ => none

end Sys2Proof.Machine
end

