-- ==== Sys2Proof/Laws/State.lean ====
section
/-! SUPPORT. What each update of the state does to each field, by `rfl`: later proofs need not unfold a record update. -/

namespace Sys2Proof.Machine

@[simp] theorem raise_sbox (d : Device) (e : ErrCode) : (d.raise e).sbox = d.sbox := rfl
@[simp] theorem raise_isbox (d : Device) (e : ErrCode) : (d.raise e).isbox = d.isbox := rfl
@[simp] theorem raise_sbv (d : Device) (e : ErrCode) : (d.raise e).sbv = d.sbv := rfl
@[simp] theorem raise_key0 (d : Device) (e : ErrCode) : (d.raise e).key0 = d.key0 := rfl
@[simp] theorem raise_key1 (d : Device) (e : ErrCode) : (d.raise e).key1 = d.key1 := rfl
@[simp] theorem raise_din (d : Device) (e : ErrCode) : (d.raise e).din = d.din := rfl
@[simp] theorem raise_dout (d : Device) (e : ErrCode) : (d.raise e).dout = d.dout := rfl
@[simp] theorem raise_rounds (d : Device) (e : ErrCode) : (d.raise e).rounds = d.rounds := rfl
@[simp] theorem raise_ie (d : Device) (e : ErrCode) : (d.raise e).ie = d.ie := rfl
@[simp] theorem raise_busy (d : Device) (e : ErrCode) : (d.raise e).busy = d.busy := rfl
@[simp] theorem raise_done (d : Device) (e : ErrCode) : (d.raise e).done = d.done := rfl
@[simp] theorem raise_err (d : Device) (e : ErrCode) : (d.raise e).err = e := rfl
@[simp] theorem raise_engOp (d : Device) (e : ErrCode) : (d.raise e).engOp = d.engOp := rfl
@[simp] theorem raise_engX (d : Device) (e : ErrCode) : (d.raise e).engX = d.engX := rfl
@[simp] theorem raise_engI (d : Device) (e : ErrCode) : (d.raise e).engI = d.engI := rfl
@[simp] theorem raise_engN (d : Device) (e : ErrCode) : (d.raise e).engN = d.engN := rfl

@[simp] theorem accept_sbox (d : Device) : (d.accept).sbox = d.sbox := rfl
@[simp] theorem accept_isbox (d : Device) : (d.accept).isbox = d.isbox := rfl
@[simp] theorem accept_sbv (d : Device) : (d.accept).sbv = d.sbv := rfl
@[simp] theorem accept_key0 (d : Device) : (d.accept).key0 = d.key0 := rfl
@[simp] theorem accept_key1 (d : Device) : (d.accept).key1 = d.key1 := rfl
@[simp] theorem accept_din (d : Device) : (d.accept).din = d.din := rfl
@[simp] theorem accept_dout (d : Device) : (d.accept).dout = d.dout := rfl
@[simp] theorem accept_rounds (d : Device) : (d.accept).rounds = d.rounds := rfl
@[simp] theorem accept_ie (d : Device) : (d.accept).ie = d.ie := rfl
@[simp] theorem accept_busy (d : Device) : (d.accept).busy = d.busy := rfl
@[simp] theorem accept_done (d : Device) : (d.accept).done = false := rfl
@[simp] theorem accept_err (d : Device) : (d.accept).err = ErrCode.none := rfl
@[simp] theorem accept_engOp (d : Device) : (d.accept).engOp = d.engOp := rfl
@[simp] theorem accept_engX (d : Device) : (d.accept).engX = d.engX := rfl
@[simp] theorem accept_engI (d : Device) : (d.accept).engI = d.engI := rfl
@[simp] theorem accept_engN (d : Device) : (d.accept).engN = d.engN := rfl

@[simp] theorem complete_sbox (d : Device) : (d.complete).sbox = d.sbox := rfl
@[simp] theorem complete_isbox (d : Device) : (d.complete).isbox = d.isbox := rfl
@[simp] theorem complete_sbv (d : Device) : (d.complete).sbv = d.sbv := rfl
@[simp] theorem complete_key0 (d : Device) : (d.complete).key0 = d.key0 := rfl
@[simp] theorem complete_key1 (d : Device) : (d.complete).key1 = d.key1 := rfl
@[simp] theorem complete_din (d : Device) : (d.complete).din = d.din := rfl
@[simp] theorem complete_dout (d : Device) : (d.complete).dout = d.dout := rfl
@[simp] theorem complete_rounds (d : Device) : (d.complete).rounds = d.rounds := rfl
@[simp] theorem complete_ie (d : Device) : (d.complete).ie = d.ie := rfl
@[simp] theorem complete_busy (d : Device) : (d.complete).busy = d.busy := rfl
@[simp] theorem complete_done (d : Device) : (d.complete).done = true := rfl
@[simp] theorem complete_err (d : Device) : (d.complete).err = d.err := rfl
@[simp] theorem complete_engOp (d : Device) : (d.complete).engOp = d.engOp := rfl
@[simp] theorem complete_engX (d : Device) : (d.complete).engX = d.engX := rfl
@[simp] theorem complete_engI (d : Device) : (d.complete).engI = d.engI := rfl
@[simp] theorem complete_engN (d : Device) : (d.complete).engN = d.engN := rfl

@[simp] theorem refuse_sbox (d : Device) (e : ErrCode) : (d.refuse e).sbox = d.sbox := rfl
@[simp] theorem refuse_isbox (d : Device) (e : ErrCode) : (d.refuse e).isbox = d.isbox := rfl
@[simp] theorem refuse_sbv (d : Device) (e : ErrCode) : (d.refuse e).sbv = d.sbv := rfl
@[simp] theorem refuse_key0 (d : Device) (e : ErrCode) : (d.refuse e).key0 = d.key0 := rfl
@[simp] theorem refuse_key1 (d : Device) (e : ErrCode) : (d.refuse e).key1 = d.key1 := rfl
@[simp] theorem refuse_din (d : Device) (e : ErrCode) : (d.refuse e).din = d.din := rfl
@[simp] theorem refuse_dout (d : Device) (e : ErrCode) : (d.refuse e).dout = d.dout := rfl
@[simp] theorem refuse_rounds (d : Device) (e : ErrCode) : (d.refuse e).rounds = d.rounds := rfl
@[simp] theorem refuse_ie (d : Device) (e : ErrCode) : (d.refuse e).ie = d.ie := rfl
@[simp] theorem refuse_busy (d : Device) (e : ErrCode) : (d.refuse e).busy = d.busy := rfl
@[simp] theorem refuse_done (d : Device) (e : ErrCode) : (d.refuse e).done = true := rfl
@[simp] theorem refuse_err (d : Device) (e : ErrCode) : (d.refuse e).err = e := rfl
@[simp] theorem refuse_engOp (d : Device) (e : ErrCode) : (d.refuse e).engOp = d.engOp := rfl
@[simp] theorem refuse_engX (d : Device) (e : ErrCode) : (d.refuse e).engX = d.engX := rfl
@[simp] theorem refuse_engI (d : Device) (e : ErrCode) : (d.refuse e).engI = d.engI := rfl
@[simp] theorem refuse_engN (d : Device) (e : ErrCode) : (d.refuse e).engN = d.engN := rfl

@[simp] theorem deliver_sbox (d : Device) (b : Block) : (d.deliver b).sbox = d.sbox := rfl
@[simp] theorem deliver_isbox (d : Device) (b : Block) : (d.deliver b).isbox = d.isbox := rfl
@[simp] theorem deliver_sbv (d : Device) (b : Block) : (d.deliver b).sbv = d.sbv := rfl
@[simp] theorem deliver_key0 (d : Device) (b : Block) : (d.deliver b).key0 = d.key0 := rfl
@[simp] theorem deliver_key1 (d : Device) (b : Block) : (d.deliver b).key1 = d.key1 := rfl
@[simp] theorem deliver_din (d : Device) (b : Block) : (d.deliver b).din = d.din := rfl
@[simp] theorem deliver_dout (d : Device) (b : Block) : (d.deliver b).dout = b := rfl
@[simp] theorem deliver_rounds (d : Device) (b : Block) : (d.deliver b).rounds = d.rounds := rfl
@[simp] theorem deliver_ie (d : Device) (b : Block) : (d.deliver b).ie = d.ie := rfl
@[simp] theorem deliver_busy (d : Device) (b : Block) : (d.deliver b).busy = d.busy := rfl
@[simp] theorem deliver_done (d : Device) (b : Block) : (d.deliver b).done = true := rfl
@[simp] theorem deliver_err (d : Device) (b : Block) : (d.deliver b).err = d.err := rfl
@[simp] theorem deliver_engOp (d : Device) (b : Block) : (d.deliver b).engOp = d.engOp := rfl
@[simp] theorem deliver_engX (d : Device) (b : Block) : (d.deliver b).engX = d.engX := rfl
@[simp] theorem deliver_engI (d : Device) (b : Block) : (d.deliver b).engI = d.engI := rfl
@[simp] theorem deliver_engN (d : Device) (b : Block) : (d.deliver b).engN = d.engN := rfl

@[simp] theorem startEngine_sbox (d : Device) (op : EngOp) (x : Block) (n : RoundCount) : (d.startEngine op x n).sbox = d.sbox := rfl
@[simp] theorem startEngine_isbox (d : Device) (op : EngOp) (x : Block) (n : RoundCount) : (d.startEngine op x n).isbox = d.isbox := rfl
@[simp] theorem startEngine_sbv (d : Device) (op : EngOp) (x : Block) (n : RoundCount) : (d.startEngine op x n).sbv = d.sbv := rfl
@[simp] theorem startEngine_key0 (d : Device) (op : EngOp) (x : Block) (n : RoundCount) : (d.startEngine op x n).key0 = d.key0 := rfl
@[simp] theorem startEngine_key1 (d : Device) (op : EngOp) (x : Block) (n : RoundCount) : (d.startEngine op x n).key1 = d.key1 := rfl
@[simp] theorem startEngine_din (d : Device) (op : EngOp) (x : Block) (n : RoundCount) : (d.startEngine op x n).din = d.din := rfl
@[simp] theorem startEngine_dout (d : Device) (op : EngOp) (x : Block) (n : RoundCount) : (d.startEngine op x n).dout = d.dout := rfl
@[simp] theorem startEngine_rounds (d : Device) (op : EngOp) (x : Block) (n : RoundCount) : (d.startEngine op x n).rounds = d.rounds := rfl
@[simp] theorem startEngine_ie (d : Device) (op : EngOp) (x : Block) (n : RoundCount) : (d.startEngine op x n).ie = d.ie := rfl
@[simp] theorem startEngine_busy (d : Device) (op : EngOp) (x : Block) (n : RoundCount) : (d.startEngine op x n).busy = true := rfl
@[simp] theorem startEngine_done (d : Device) (op : EngOp) (x : Block) (n : RoundCount) : (d.startEngine op x n).done = d.done := rfl
@[simp] theorem startEngine_err (d : Device) (op : EngOp) (x : Block) (n : RoundCount) : (d.startEngine op x n).err = d.err := rfl
@[simp] theorem startEngine_engOp (d : Device) (op : EngOp) (x : Block) (n : RoundCount) : (d.startEngine op x n).engOp = op := rfl
@[simp] theorem startEngine_engX (d : Device) (op : EngOp) (x : Block) (n : RoundCount) : (d.startEngine op x n).engX = x := rfl
@[simp] theorem startEngine_engI (d : Device) (op : EngOp) (x : Block) (n : RoundCount) : (d.startEngine op x n).engI = 0#16 := rfl
@[simp] theorem startEngine_engN (d : Device) (op : EngOp) (x : Block) (n : RoundCount) : (d.startEngine op x n).engN = n := rfl

@[simp] theorem loadSbox_sbox (d : Device) (b : Nat) (v : Word) : (d.loadSbox b v).sbox = unpackInto d.sbox b v := rfl
@[simp] theorem loadSbox_isbox (d : Device) (b : Nat) (v : Word) : (d.loadSbox b v).isbox = d.isbox := rfl
@[simp] theorem loadSbox_sbv (d : Device) (b : Nat) (v : Word) : (d.loadSbox b v).sbv = false := rfl
@[simp] theorem loadSbox_key0 (d : Device) (b : Nat) (v : Word) : (d.loadSbox b v).key0 = d.key0 := rfl
@[simp] theorem loadSbox_key1 (d : Device) (b : Nat) (v : Word) : (d.loadSbox b v).key1 = d.key1 := rfl
@[simp] theorem loadSbox_din (d : Device) (b : Nat) (v : Word) : (d.loadSbox b v).din = d.din := rfl
@[simp] theorem loadSbox_dout (d : Device) (b : Nat) (v : Word) : (d.loadSbox b v).dout = d.dout := rfl
@[simp] theorem loadSbox_rounds (d : Device) (b : Nat) (v : Word) : (d.loadSbox b v).rounds = d.rounds := rfl
@[simp] theorem loadSbox_ie (d : Device) (b : Nat) (v : Word) : (d.loadSbox b v).ie = d.ie := rfl
@[simp] theorem loadSbox_busy (d : Device) (b : Nat) (v : Word) : (d.loadSbox b v).busy = d.busy := rfl
@[simp] theorem loadSbox_done (d : Device) (b : Nat) (v : Word) : (d.loadSbox b v).done = d.done := rfl
@[simp] theorem loadSbox_err (d : Device) (b : Nat) (v : Word) : (d.loadSbox b v).err = d.err := rfl
@[simp] theorem loadSbox_engOp (d : Device) (b : Nat) (v : Word) : (d.loadSbox b v).engOp = d.engOp := rfl
@[simp] theorem loadSbox_engX (d : Device) (b : Nat) (v : Word) : (d.loadSbox b v).engX = d.engX := rfl
@[simp] theorem loadSbox_engI (d : Device) (b : Nat) (v : Word) : (d.loadSbox b v).engI = d.engI := rfl
@[simp] theorem loadSbox_engN (d : Device) (b : Nat) (v : Word) : (d.loadSbox b v).engN = d.engN := rfl

@[simp] theorem engineForward_sbox (d : Device) : (engineForward d).sbox = d.sbox := rfl
@[simp] theorem engineForward_isbox (d : Device) : (engineForward d).isbox = d.isbox := rfl
@[simp] theorem engineForward_sbv (d : Device) : (engineForward d).sbv = d.sbv := rfl
@[simp] theorem engineForward_key0 (d : Device) : (engineForward d).key0 = d.key0 := rfl
@[simp] theorem engineForward_key1 (d : Device) : (engineForward d).key1 = d.key1 := rfl
@[simp] theorem engineForward_din (d : Device) : (engineForward d).din = d.din := rfl
@[simp] theorem engineForward_dout (d : Device) : (engineForward d).dout = d.dout := rfl
@[simp] theorem engineForward_rounds (d : Device) : (engineForward d).rounds = d.rounds := rfl
@[simp] theorem engineForward_ie (d : Device) : (engineForward d).ie = d.ie := rfl
@[simp] theorem engineForward_busy (d : Device) : (engineForward d).busy = d.busy := rfl
@[simp] theorem engineForward_done (d : Device) : (engineForward d).done = d.done := rfl
@[simp] theorem engineForward_err (d : Device) : (engineForward d).err = d.err := rfl
@[simp] theorem engineForward_engOp (d : Device) : (engineForward d).engOp = d.engOp := rfl
@[simp] theorem engineForward_engX (d : Device) : (engineForward d).engX = d.round d.engX (d.roundKey d.engI.toNat) := rfl
@[simp] theorem engineForward_engI (d : Device) : (engineForward d).engI = d.engI + 1#16 := rfl
@[simp] theorem engineForward_engN (d : Device) : (engineForward d).engN = d.engN := rfl

@[simp] theorem engineInverse_sbox (d : Device) : (engineInverse d).sbox = d.sbox := rfl
@[simp] theorem engineInverse_isbox (d : Device) : (engineInverse d).isbox = d.isbox := rfl
@[simp] theorem engineInverse_sbv (d : Device) : (engineInverse d).sbv = d.sbv := rfl
@[simp] theorem engineInverse_key0 (d : Device) : (engineInverse d).key0 = d.key0 := rfl
@[simp] theorem engineInverse_key1 (d : Device) : (engineInverse d).key1 = d.key1 := rfl
@[simp] theorem engineInverse_din (d : Device) : (engineInverse d).din = d.din := rfl
@[simp] theorem engineInverse_dout (d : Device) : (engineInverse d).dout = d.dout := rfl
@[simp] theorem engineInverse_rounds (d : Device) : (engineInverse d).rounds = d.rounds := rfl
@[simp] theorem engineInverse_ie (d : Device) : (engineInverse d).ie = d.ie := rfl
@[simp] theorem engineInverse_busy (d : Device) : (engineInverse d).busy = d.busy := rfl
@[simp] theorem engineInverse_done (d : Device) : (engineInverse d).done = d.done := rfl
@[simp] theorem engineInverse_err (d : Device) : (engineInverse d).err = d.err := rfl
@[simp] theorem engineInverse_engOp (d : Device) : (engineInverse d).engOp = d.engOp := rfl
@[simp] theorem engineInverse_engX (d : Device) : (engineInverse d).engX = d.iround d.engX (d.roundKey (d.engN - 1#16 - d.engI).toNat) := rfl
@[simp] theorem engineInverse_engI (d : Device) : (engineInverse d).engI = d.engI + 1#16 := rfl
@[simp] theorem engineInverse_engN (d : Device) : (engineInverse d).engN = d.engN := rfl

@[simp] theorem engineComplete_sbox (d : Device) : (engineComplete d).sbox = d.sbox := rfl
@[simp] theorem engineComplete_isbox (d : Device) : (engineComplete d).isbox = d.isbox := rfl
@[simp] theorem engineComplete_sbv (d : Device) : (engineComplete d).sbv = d.sbv := rfl
@[simp] theorem engineComplete_key0 (d : Device) : (engineComplete d).key0 = d.key0 := rfl
@[simp] theorem engineComplete_key1 (d : Device) : (engineComplete d).key1 = d.key1 := rfl
@[simp] theorem engineComplete_din (d : Device) : (engineComplete d).din = d.din := rfl
@[simp] theorem engineComplete_dout (d : Device) : (engineComplete d).dout = d.engX := rfl
@[simp] theorem engineComplete_rounds (d : Device) : (engineComplete d).rounds = d.rounds := rfl
@[simp] theorem engineComplete_ie (d : Device) : (engineComplete d).ie = d.ie := rfl
@[simp] theorem engineComplete_busy (d : Device) : (engineComplete d).busy = false := rfl
@[simp] theorem engineComplete_done (d : Device) : (engineComplete d).done = true := rfl
@[simp] theorem engineComplete_err (d : Device) : (engineComplete d).err = d.err := rfl
@[simp] theorem engineComplete_engOp (d : Device) : (engineComplete d).engOp = EngOp.idle := rfl
@[simp] theorem engineComplete_engX (d : Device) : (engineComplete d).engX = d.engX := rfl
@[simp] theorem engineComplete_engI (d : Device) : (engineComplete d).engI = d.engI := rfl
@[simp] theorem engineComplete_engN (d : Device) : (engineComplete d).engN = d.engN := rfl

@[simp] theorem onDev_dev (s : State) (f : Device → Device) : (s.onDev f).dev = f s.dev := rfl
@[simp] theorem onDev_rstN (s : State) (f : Device → Device) : (s.onDev f).rstN = s.rstN := rfl
@[simp] theorem onDev_host (s : State) (f : Device → Device) : (s.onDev f).host = s.host := rfl
@[simp] theorem onDev_sched (s : State) (f : Device → Device) : (s.onDev f).sched = s.sched := rfl
@[simp] theorem onDev_reads (s : State) (f : Device → Device) : (s.onDev f).reads = s.reads := rfl

@[simp] theorem returnRead_dev (s : State) (v : Word) : (s.returnRead v).dev = s.dev := rfl
@[simp] theorem returnRead_rstN (s : State) (v : Word) : (s.returnRead v).rstN = s.rstN := rfl
@[simp] theorem returnRead_host (s : State) (v : Word) : (s.returnRead v).host = s.host := rfl
@[simp] theorem returnRead_sched (s : State) (v : Word) : (s.returnRead v).sched = s.sched := rfl
@[simp] theorem returnRead_reads (s : State) (v : Word) : (s.returnRead v).reads = s.reads ++ [v] := rfl

@[simp] theorem takeTurn_dev (s : State) : (s.takeTurn).dev = s.dev := rfl
@[simp] theorem takeTurn_rstN (s : State) : (s.takeTurn).rstN = s.rstN := rfl
@[simp] theorem takeTurn_host (s : State) : (s.takeTurn).host = s.host := rfl
@[simp] theorem takeTurn_sched (s : State) : (s.takeTurn).sched = s.sched.tail := rfl
@[simp] theorem takeTurn_reads (s : State) : (s.takeTurn).reads = s.reads := rfl

@[simp] theorem withPortWord_dev (s : State) (p : PortWord) : (s.withPortWord p).dev = s.dev := rfl
@[simp] theorem withPortWord_rstN (s : State) (p : PortWord) : (s.withPortWord p).rstN = true := rfl
@[simp] theorem withPortWord_host (s : State) (p : PortWord) : (s.withPortWord p).host = HostLine.word p :: s.host := rfl
@[simp] theorem withPortWord_sched (s : State) (p : PortWord) : (s.withPortWord p).sched = Turn.host :: s.sched := rfl
@[simp] theorem withPortWord_reads (s : State) (p : PortWord) : (s.withPortWord p).reads = s.reads := rfl

@[simp] theorem rstTurn_dev (s : State) (level : Bool) : (rstTurn level s).dev = if level && s.rstN then s.dev else Device.reset := rfl
@[simp] theorem rstTurn_rstN (s : State) (level : Bool) : (rstTurn level s).rstN = level := rfl
@[simp] theorem rstTurn_host (s : State) (level : Bool) : (rstTurn level s).host = s.host := rfl
@[simp] theorem rstTurn_sched (s : State) (level : Bool) : (rstTurn level s).sched = s.sched := rfl
@[simp] theorem rstTurn_reads (s : State) (level : Bool) : (rstTurn level s).reads = s.reads := rfl

end Sys2Proof.Machine
end

