-- ==== Sys2Proof/Laws/Ops.lean ====
section
/-! SUPPORT. One lemma per shared operation: everything it can do. Proofs cite these and do not unfold the operation. -/

namespace Sys2Proof.Machine

/-- A legal command in the four cases of R110. -/
theorem runCommand_cases (needsLut : Bool) (op : Device → Device) (d : Device) :
    (d.busy = true ∧ runCommand needsLut op d = d.raise .busy) ∨
    (d.busy = false ∧ needsLut = true ∧ d.sbv = false ∧ runCommand needsLut op d = d.accept.refuse .invalidSbox) ∨
    (d.busy = false ∧ (needsLut = true → d.sbv = true) ∧ runCommand needsLut op d = op d.accept) := by
  cases hb : d.busy <;> cases needsLut <;> cases hs : d.sbv <;> simp [runCommand, hb, hs]

theorem runCommand_busy {needsLut : Bool} {op : Device → Device} {d : Device} (h : d.busy = true) :
    runCommand needsLut op d = d.raise .busy := by
  simp [runCommand, h]

theorem runCommand_table {op : Device → Device} {d : Device} (h : d.busy = false) (hs : d.sbv = false) :
    runCommand true op d = d.accept.refuse .invalidSbox := by
  simp [runCommand, h, hs]

theorem runCommand_accepted {needsLut : Bool} {op : Device → Device} {d : Device} (h : d.busy = false)
    (hs : needsLut = true → d.sbv = true) : runCommand needsLut op d = op d.accept := by
  cases needsLut <;> simp_all [runCommand]

theorem illegalCommand_busy {d : Device} (h : d.busy = true) : illegalCommand d = d.raise .busy := by
  simp [illegalCommand, h]

theorem illegalCommand_idle {d : Device} (h : d.busy = false) : illegalCommand d = d.accept.refuse .illegalCmd := by
  simp [illegalCommand, h]

/-- SBCHK's two outcomes (R125). -/
theorem checkSbox_cases (d : Device) :
    (bijective d.sbox = true ∧ checkSbox d = { d with isbox := invert d.sbox, sbv := true, done := true }) ∨
    (bijective d.sbox = false ∧ checkSbox d = d.refuse .invalidSbox) := by
  cases h : bijective d.sbox <;> simp [checkSbox, h]

/-- A configuration write in the three cases of R208. -/
theorem guardedWrite_cases (fits : Bool) (store : Device → Device) (d : Device) :
    (d.busy = true ∧ guardedWrite fits store d = d.raise .busy) ∨
    (d.busy = false ∧ fits = false ∧ guardedWrite fits store d = d.raise .domain) ∨
    (d.busy = false ∧ fits = true ∧ guardedWrite fits store d = store d) := by
  cases hb : d.busy <;> cases fits <;> simp [guardedWrite, hb]

theorem guardedWrite_busy {fits : Bool} {store : Device → Device} {d : Device} (h : d.busy = true) :
    guardedWrite fits store d = d.raise .busy := by
  simp [guardedWrite, h]

/-- A STATUS write keeps or clears DONE. -/
theorem writeStatus_eq (v : Word) (d : Device) :
    d.writeStatus v = { d with done := if v.getLsbD 1 then false else d.done } := by
  unfold Device.writeStatus
  split <;> rfl

/-- The fields of STATUS where a read returns them (R34). -/
theorem statusWord_fields (d : Device) :
    d.statusWord.getLsbD 0 = d.busy ∧ d.statusWord.getLsbD 1 = d.done ∧ d.statusWord.getLsbD 2 = d.sbv ∧
    d.statusWord.getLsbD 3 = false ∧ d.statusWord.extractLsb' 4 3 = d.err.code ∧
    d.statusWord.extractLsb' 7 25 = 0#25 := by
  unfold Device.statusWord
  cases d.err <;> cases d.sbv <;> cases d.done <;> cases d.busy <;> decide

/-- The engine's step is one of R165, R166, R167, or none is enabled. -/
theorem engineStep_cases (d : Device) :
    (d.engOp = .enc ∧ d.engI < d.engN ∧ engineStep d = engineForward d) ∨
    (d.engOp = .dec ∧ d.engI < d.engN ∧ engineStep d = engineInverse d) ∨
    (d.engOp ≠ .idle ∧ d.engI = d.engN ∧ engineStep d = engineComplete d) ∨
    ((d.engOp = .idle ∨ d.engN < d.engI) ∧ engineStep d = d) := by
  unfold engineStep
  rcases BitVec.lt_trichotomy d.engI d.engN with h | h | h
  · cases ho : d.engOp <;> simp [h, BitVec.ne_of_lt h]
  · cases ho : d.engOp <;> simp [h, BitVec.lt_irrefl]
  · have h1 : ¬ d.engI < d.engN := BitVec.lt_asymm h
    have h2 : d.engI ≠ d.engN := (BitVec.ne_of_lt h).symm
    cases ho : d.engOp <;> simp [h, h1, h2]

/-- What a host transaction can do to the machine: it changes SBC8 and not the environment, or it reads. -/
theorem exec_cases (i : Instr) (s : State) :
    (∃ f, exec i s = .next (s.onDev f)) ∨ (∃ v, exec i s = .next (s.returnRead v)) := by
  have same : ∀ t : State, t.onDev id = t := fun _ => rfl
  cases i
  case wrCmd v =>
    refine Or.inl ?_
    show ∃ f, execWrCmd v s = .next (s.onDev f)
    unfold execWrCmd
    split
    · rename_i c _
      cases c <;> exact ⟨_, rfl⟩
    · exact ⟨_, rfl⟩
  all_goals first
    | exact Or.inl ⟨_, rfl⟩
    | exact Or.inr ⟨_, rfl⟩
    | exact Or.inl ⟨id, by rw [same]; rfl⟩

/-- What a poll of `WAIT` can do: it reads BUSY = 0, records that read and ends the line, or it leaves everything. -/
theorem pollWait_cases (rest : List HostLine) (s : State) :
    (s.rstN = true ∧ s.dev.busy = false ∧
      pollWait rest s = { s with host := rest, reads := s.reads ++ [s.dev.statusWord] }) ∨
    ((s.rstN = false ∨ s.dev.busy = true) ∧ pollWait rest s = s) := by
  have hbit : s.dev.statusWord.getLsbD 0 = s.dev.busy := (statusWord_fields s.dev).1
  cases hr : s.rstN <;> cases hb : s.dev.busy <;>
    simp only [pollWait, busRead, hbit, hr, hb, State.returnRead] <;> simp

/-- What the host's turn can do. -/
theorem hostTurn_cases (s : State) :
    (s.host = [] ∧ hostTurn s = .next s) ∨
    (∃ p rest, s.host = .word p :: rest ∧ s.rstN = true ∧ hostTurn s = exec p.presented { s with host := rest }) ∨
    (∃ p rest, s.host = .word p :: rest ∧ s.rstN = false ∧ hostTurn s = .next { s with host := rest }) ∨
    (∃ rest, s.host = .wait :: rest ∧ s.rstN = true ∧ s.dev.busy = false ∧
      hostTurn s = .next { s with host := rest, reads := s.reads ++ [s.dev.statusWord] }) ∨
    (∃ rest, s.host = .wait :: rest ∧ (s.rstN = false ∨ s.dev.busy = true) ∧ hostTurn s = .next s) := by
  rcases hh : s.host with _ | ⟨_ | _, rest⟩
  · simp [hostTurn, hh]
  · cases hr : s.rstN <;> simp [hostTurn, hh, hr]
  · rcases pollWait_cases rest s with ⟨hr, hb, h⟩ | ⟨hrb, h⟩
    · simp [hostTurn, hh, h, hr, hb]
    · simp [hostTurn, hh, h, hrb]

/-- What a step can do, by whose turn it is. -/
theorem step_cases (s : State) :
    (s.turn = .host ∧ step s = hostTurn s.takeTurn) ∨
    (s.turn = .engine ∧ step s = .next (engineTurn s.takeTurn)) ∨
    (∃ level, s.turn = .rst level ∧ step s = .next (rstTurn level s.takeTurn)) := by
  unfold step
  cases h : s.turn <;> simp

end Sys2Proof.Machine
end

