-- ==== Sys2Proof/Laws/PerInstr.lean ====
section
/-! SUPPORT. Facts about every instruction as syntax, one lemma per constructor. -/

namespace Sys2Proof.Laws.EncodeLegal

/-- The encoded form of a well-formed instruction is well formed: a command's word is legal (R95). -/
def Statement (i : Instr) : Prop := i.wellFormed = true → (encode i).wellFormed = true

theorem nop : Statement Instr.nop := fun _ => rfl
theorem sub (src : Src) : Statement (Instr.sub src) := by cases src <;> exact fun _ => rfl
theorem subi (src : Src) : Statement (Instr.subi src) := by cases src <;> exact fun _ => rfl
theorem kxor (k : KSel) (src : Src) : Statement (Instr.kxor k src) := by cases k <;> cases src <;> exact fun _ => rfl
theorem rnd (k : KSel) (src : Src) : Statement (Instr.rnd k src) := by cases k <;> cases src <;> exact fun _ => rfl
theorem irnd (k : KSel) (src : Src) : Statement (Instr.irnd k src) := by cases k <;> cases src <;> exact fun _ => rfl
theorem enc (src : Src) : Statement (Instr.enc src) := by cases src <;> exact fun _ => rfl
theorem enc2 (src : Src) : Statement (Instr.enc2 src) := by cases src <;> exact fun _ => rfl
theorem dec (src : Src) : Statement (Instr.dec src) := by cases src <;> exact fun _ => rfl
theorem sbchk : Statement Instr.sbchk := fun _ => rfl
theorem rdCmd : Statement Instr.rdCmd := fun _ => rfl
theorem rdStatus : Statement Instr.rdStatus := fun _ => rfl
theorem rdCtrl : Statement Instr.rdCtrl := fun _ => rfl
theorem rdId : Statement Instr.rdId := fun _ => rfl
theorem rdDin : Statement Instr.rdDin := fun _ => rfl
theorem rdDout : Statement Instr.rdDout := fun _ => rfl
theorem rdKey0 : Statement Instr.rdKey0 := fun _ => rfl
theorem rdKey1 : Statement Instr.rdKey1 := fun _ => rfl
theorem rdRounds : Statement Instr.rdRounds := fun _ => rfl
theorem rdRsvd24 : Statement Instr.rdRsvd24 := fun _ => rfl
theorem rdSboxLo : Statement Instr.rdSboxLo := fun _ => rfl
theorem rdSboxHi : Statement Instr.rdSboxHi := fun _ => rfl
theorem rdIsboxLo : Statement Instr.rdIsboxLo := fun _ => rfl
theorem rdIsboxHi : Statement Instr.rdIsboxHi := fun _ => rfl
theorem rdRsvd38 : Statement Instr.rdRsvd38 := fun _ => rfl
theorem rdRsvd3C : Statement Instr.rdRsvd3C := fun _ => rfl
theorem wrCmd (v : Word) : Statement (Instr.wrCmd v) := fun _ => rfl
theorem wrStatus (v : Word) : Statement (Instr.wrStatus v) := fun _ => rfl
theorem wrCtrl (v : Word) : Statement (Instr.wrCtrl v) := fun _ => rfl
theorem wrId (v : Word) : Statement (Instr.wrId v) := fun _ => rfl
theorem wrDin (v : Word) : Statement (Instr.wrDin v) := fun _ => rfl
theorem wrDout (v : Word) : Statement (Instr.wrDout v) := fun _ => rfl
theorem wrKey0 (v : Word) : Statement (Instr.wrKey0 v) := fun _ => rfl
theorem wrKey1 (v : Word) : Statement (Instr.wrKey1 v) := fun _ => rfl
theorem wrRounds (v : Word) : Statement (Instr.wrRounds v) := fun _ => rfl
theorem wrRsvd24 (v : Word) : Statement (Instr.wrRsvd24 v) := fun _ => rfl
theorem wrSboxLo (v : Word) : Statement (Instr.wrSboxLo v) := fun _ => rfl
theorem wrSboxHi (v : Word) : Statement (Instr.wrSboxHi v) := fun _ => rfl
theorem wrIsboxLo (v : Word) : Statement (Instr.wrIsboxLo v) := fun _ => rfl
theorem wrIsboxHi (v : Word) : Statement (Instr.wrIsboxHi v) := fun _ => rfl
theorem wrRsvd38 (v : Word) : Statement (Instr.wrRsvd38 v) := fun _ => rfl
theorem wrRsvd3C (v : Word) : Statement (Instr.wrRsvd3C v) := fun _ => rfl

end Sys2Proof.Laws.EncodeLegal
end

