-- ==== Sys2Proof/Certificates/Slice0/Obligations.lean ====
section
/-! DEFINITION. The statements about SBC8 for the provers. Each formalises rules of spec/ that OBLIGATIONS.json cites. Where a
conclusion is an equation with a record update of the state, every field not named in it keeps its value: that is the frame. -/

open Sys2Proof Sys2Proof.Machine

/-! ## Encoding -/

/-- Decoding the encoded form of a well-formed instruction gives it back, with every operand at every value. -/
def Obligations.DecodeInvertsEncode : Prop :=
  ∀ i : Instr, i.wellFormed = true → decode (encode i) = .ok i

/-- Encoding what was decoded gives the same port signals back; only the data word of a read, which a read does not have,
is not kept. That a read ignores that word and is encoded with 0 there is the model's choice (notes/assumptions/13.md). -/
def Obligations.EncodeInvertsDecode : Prop :=
  ∀ (p : PortWord) (i : Instr), decode p = .ok i →
    (p.signals.1.getLsbD 4 = true → encode i = p) ∧
    (p.signals.1.getLsbD 4 = false → encode i = .transaction p.signals.1 0#32)

/-- R97: the 24 legal words, which command each of them is, that every other word is illegal, and that a word is a
command exactly when its masked bits match. -/
def Obligations.LegalWordsAreTheTwentyFour : Prop :=
  (∀ (c : Word) (cmd : Cmd), decodeCommand c = .ok cmd ↔ (c, cmd) ∈ [
    (0x00#32, Cmd.nop), (0x01#32, .sub .din), (0x21#32, .sub .dout), (0x02#32, .subi .din), (0x22#32, .subi .dout),
    (0x03#32, .kxor .key0 .din), (0x13#32, .kxor .key1 .din), (0x23#32, .kxor .key0 .dout), (0x33#32, .kxor .key1 .dout),
    (0x04#32, .rnd .key0 .din), (0x14#32, .rnd .key1 .din), (0x24#32, .rnd .key0 .dout), (0x34#32, .rnd .key1 .dout),
    (0x05#32, .irnd .key0 .din), (0x15#32, .irnd .key1 .din), (0x25#32, .irnd .key0 .dout), (0x35#32, .irnd .key1 .dout),
    (0x06#32, .enc .din), (0x26#32, .enc .dout), (0x07#32, .enc2 .din), (0x27#32, .enc2 .dout),
    (0x08#32, .dec .din), (0x28#32, .dec .dout), (0x09#32, .sbchk)]) ∧
  (∀ c : Word,
    (decodeCommand c = .ok .nop ↔ c &&& 0xFFFFFFFF#32 = 0x0#32) ∧
    ((∃ src, decodeCommand c = .ok (.sub src)) ↔ c &&& 0xFFFFFFDF#32 = 0x1#32) ∧
    ((∃ src, decodeCommand c = .ok (.subi src)) ↔ c &&& 0xFFFFFFDF#32 = 0x2#32) ∧
    ((∃ k src, decodeCommand c = .ok (.kxor k src)) ↔ c &&& 0xFFFFFFCF#32 = 0x3#32) ∧
    ((∃ k src, decodeCommand c = .ok (.rnd k src)) ↔ c &&& 0xFFFFFFCF#32 = 0x4#32) ∧
    ((∃ k src, decodeCommand c = .ok (.irnd k src)) ↔ c &&& 0xFFFFFFCF#32 = 0x5#32) ∧
    ((∃ src, decodeCommand c = .ok (.enc src)) ↔ c &&& 0xFFFFFFDF#32 = 0x6#32) ∧
    ((∃ src, decodeCommand c = .ok (.enc2 src)) ↔ c &&& 0xFFFFFFDF#32 = 0x7#32) ∧
    ((∃ src, decodeCommand c = .ok (.dec src)) ↔ c &&& 0xFFFFFFDF#32 = 0x8#32) ∧
    (decodeCommand c = .ok .sbchk ↔ c &&& 0xFFFFFFFF#32 = 0x9#32))

/-- R95: the four conditions on a word's bits under which it is legal, that the decoder accepts exactly those words, that they
are 24, and that a word that is not legal, accepted, is refused with ILLEGAL_CMD and DONE, whether or not SBV is 1. -/
def Obligations.IllegalWordsAreRefusedByTheFourChecks : Prop :=
  (∀ c : Word, legal c = true ↔
    (c.extractLsb' 6 26 = 0#26 ∧ c.extractLsb' 0 4 ≤ 0x9#4 ∧
      (c.getLsbD 4 = true → c.extractLsb' 0 4 ∈ [0x3#4, 0x4#4, 0x5#4]) ∧
      (c.getLsbD 5 = true → c.extractLsb' 0 4 ∈ [0x1#4, 0x2#4, 0x3#4, 0x4#4, 0x5#4, 0x6#4, 0x7#4, 0x8#4]))) ∧
  (∀ c : Word, legal c = true ↔ ∃ cmd, decodeCommand c = .ok cmd) ∧
  (∀ c : Word, legal c = true ↔ c ∈ [0x00#32, 0x01#32, 0x02#32, 0x03#32, 0x04#32, 0x05#32, 0x06#32, 0x07#32, 0x08#32,
    0x09#32, 0x13#32, 0x14#32, 0x15#32, 0x21#32, 0x22#32, 0x23#32, 0x24#32, 0x25#32, 0x26#32, 0x27#32, 0x28#32, 0x33#32,
    0x34#32, 0x35#32]) ∧
  (∀ (c : Word) (s : State), s.dev.busy = false → legal c = false →
    exec (.wrCmd c) s = .next { s with dev := { s.dev with err := .illegalCmd, done := true } })

/-- R101: the worked encodings of the spec, read by the decoder. -/
def Obligations.WorkedEncodingsDecode : Prop :=
  decode (.command 0x00000034#32) = .ok (.rnd .key1 .dout) ∧
  decode (.command 0x00000006#32) = .ok (.enc .din) ∧
  decode (.transaction 0b10110#5 0x00000046#32) = .ok (.wrKey0 0x46#32) ∧
  decodeTransaction 0b10000#5 0x00000034#32 = .wrCmd 0x34#32 ∧
  decode (.command 0x00000011#32) = .error .kselUnused

/-- Writing a legal word to CMD does, in every state, exactly what the command it stands for does. -/
def Obligations.WritingACommandWordIsTheCommand : Prop :=
  ∀ (c : Word) (cmd : Cmd) (s : State), decodeCommand c = .ok cmd → exec (.wrCmd c) s = exec cmd.toInstr s

/-! ## The step -/

/-- In the host's turn a step performs the transaction the host's next line holds: the decoded instruction, and for a command
word that stands for none the plain write of that word to CMD (notes/assumptions/8.md). The step also takes the line and the
turn, which are the model's own fields (notes/assumptions/1.md, 2.md). -/
def Obligations.StepPerformsTheIssuedInstruction : Prop :=
  (∀ (s : State) (p : PortWord) (rest : List HostLine) (i : Instr),
    s.turn = .host → s.rstN = true → s.host = .word p :: rest → decode p = .ok i →
    step s = exec i { s with host := rest, sched := s.sched.tail }) ∧
  (∀ (s : State) (c : Word) (rest : List HostLine),
    s.turn = .host → s.rstN = true → s.host = .word (.command c) :: rest → (∀ i, decode (.command c) ≠ .ok i) →
    step s = exec (.wrCmd c) { s with host := rest, sched := s.sched.tail })

/-- `WAIT` repeats a read of STATUS while BUSY = 1; the read of BUSY = 0 ends it, is recorded with its value, and lets the host
go on; SBC8 does not change. That the polls before it are not recorded, and that it waits while reset is asserted, is the
model's choice (notes/assumptions/3.md, 6.md). -/
def Obligations.WaitPollsUntilNotBusy : Prop :=
  ∀ (s : State) (rest : List HostLine), s.turn = .host → s.host = .wait :: rest →
    (s.rstN = true → s.dev.busy = false →
      step s = .next { s with host := rest, sched := s.sched.tail, reads := s.reads ++ [s.dev.statusWord] }) ∧
    (s.rstN = true → s.dev.busy = true → step s = .next { s with sched := s.sched.tail }) ∧
    (s.rstN = false → step s = .next { s with sched := s.sched.tail })

/-- SBC8 raises no trap and refuses no transaction: every step, from every state, answers a next state, and so does every
instruction. -/
def Obligations.NothingEverStopsTheMachine : Prop :=
  (∀ s : State, ∃ t, step s = .next t) ∧ (∀ (i : Instr) (s : State), ∃ t, exec i s = .next t)

/-- A finished run stays as it is: SBC8 executes nothing by itself. That a step with nothing to do leaves the state as it is
is the model's form of that (notes/assumptions/7.md). -/
def Obligations.FinishedMachineExecutesNothing : Prop :=
  ∀ s : State, Finished s → s.sched = [] → step s = .next s

/-! ## Reads -/

/-- R59: what a read of each offset returns, in every state, and that SBC8 and everything else stay as they are. -/
def Obligations.BusReadReturnsTheRegisterMap : Prop :=
  ∀ s : State,
    exec .rdCmd s = .next { s with reads := s.reads ++ [0x00000000#32] } ∧
    exec .rdStatus s = .next { s with reads := s.reads ++ [0#25 ++ s.dev.err.code ++ 0#1 ++ BitVec.ofBool s.dev.sbv
      ++ BitVec.ofBool s.dev.done ++ BitVec.ofBool s.dev.busy] } ∧
    exec .rdCtrl s = .next { s with reads := s.reads ++ [0#31 ++ BitVec.ofBool s.dev.ie] } ∧
    exec .rdId s = .next { s with reads := s.reads ++ [0x53420100#32] } ∧
    exec .rdDin s = .next { s with reads := s.reads ++ [0#24 ++ s.dev.din] } ∧
    exec .rdDout s = .next { s with reads := s.reads ++ [0#24 ++ s.dev.dout] } ∧
    exec .rdKey0 s = .next { s with reads := s.reads ++ [0#24 ++ s.dev.key0] } ∧
    exec .rdKey1 s = .next { s with reads := s.reads ++ [0#24 ++ s.dev.key1] } ∧
    exec .rdRounds s = .next { s with reads := s.reads ++ [0#16 ++ s.dev.rounds] } ∧
    exec .rdRsvd24 s = .next { s with reads := s.reads ++ [0x00000000#32] } ∧
    exec .rdSboxLo s = .next { s with reads := s.reads ++ [pack s.dev.sbox 0] } ∧
    exec .rdSboxHi s = .next { s with reads := s.reads ++ [pack s.dev.sbox 8] } ∧
    exec .rdIsboxLo s = .next { s with reads := s.reads ++ [pack s.dev.isbox 0] } ∧
    exec .rdIsboxHi s = .next { s with reads := s.reads ++ [pack s.dev.isbox 8] } ∧
    exec .rdRsvd38 s = .next { s with reads := s.reads ++ [0x00000000#32] } ∧
    exec .rdRsvd3C s = .next { s with reads := s.reads ++ [0x00000000#32] }

/-- R33, R34, R201: the bits of STATUS, the codes of ERR and that 5, 6 and 7 are never read, and the reset read value. -/
def Obligations.StatusReadsItsFields : Prop :=
  (∀ s : State, ∃ w : Word, exec .rdStatus s = .next { s with reads := s.reads ++ [w] } ∧
    w.getLsbD 0 = s.dev.busy ∧ w.getLsbD 1 = s.dev.done ∧ w.getLsbD 2 = s.dev.sbv ∧ w.getLsbD 3 = false ∧
    w.extractLsb' 7 25 = 0#25 ∧
    (s.dev.err = .none → w.extractLsb' 4 3 = 0#3) ∧ (s.dev.err = .invalidSbox → w.extractLsb' 4 3 = 1#3) ∧
    (s.dev.err = .domain → w.extractLsb' 4 3 = 2#3) ∧ (s.dev.err = .illegalCmd → w.extractLsb' 4 3 = 3#3) ∧
    (s.dev.err = .busy → w.extractLsb' 4 3 = 4#3) ∧ w.extractLsb' 4 3 ≤ 4#3) ∧
  exec .rdStatus State.reset = .next { State.reset with reads := [0x00000004#32] }

/-- R55: entry `b+i` of a table stands in bits [4i+3:4i] of its word, in both directions, for the four LUT words; unpacking a
word keeps the other eight entries. -/
def Obligations.LutWordsArePackedByNibble : Prop :=
  (∀ (T : Lut) (i : Nat) (h : i < 8),
    (pack T 0).extractLsb' (4 * i) 4 = T[i] ∧ (pack T 8).extractLsb' (4 * i) 4 = T[8 + i]) ∧
  (∀ (T : Lut) (v : Word) (i : Nat) (h : i < 8),
    (unpackInto T 0 v)[i] = v.extractLsb' (4 * i) 4 ∧ (unpackInto T 8 v)[8 + i] = v.extractLsb' (4 * i) 4 ∧
    (unpackInto T 0 v)[8 + i] = T[8 + i] ∧ (unpackInto T 8 v)[i] = T[i]) ∧
  (∀ s : State, busRead .sboxLo s.dev = pack s.dev.sbox 0 ∧ busRead .sboxHi s.dev = pack s.dev.sbox 8 ∧
    busRead .isboxLo s.dev = pack s.dev.isbox 0 ∧ busRead .isboxHi s.dev = pack s.dev.isbox 8)

/-! ## Writes -/

/-- R66, R69, R70: a write to DIN, KEY0 or KEY1 is performed, or raises BUSY, or raises DOMAIN. -/
def Obligations.BlockRegisterWrites : Prop :=
  ∀ (s : State) (v : Word),
    (s.dev.busy = true →
      exec (.wrDin v) s = .next { s with dev := { s.dev with err := .busy } } ∧
      exec (.wrKey0 v) s = .next { s with dev := { s.dev with err := .busy } } ∧
      exec (.wrKey1 v) s = .next { s with dev := { s.dev with err := .busy } }) ∧
    (s.dev.busy = false → v.extractLsb' 8 24 ≠ 0#24 →
      exec (.wrDin v) s = .next { s with dev := { s.dev with err := .domain } } ∧
      exec (.wrKey0 v) s = .next { s with dev := { s.dev with err := .domain } } ∧
      exec (.wrKey1 v) s = .next { s with dev := { s.dev with err := .domain } }) ∧
    (s.dev.busy = false → v.extractLsb' 8 24 = 0#24 →
      exec (.wrDin v) s = .next { s with dev := { s.dev with din := v.extractLsb' 0 8 } } ∧
      exec (.wrKey0 v) s = .next { s with dev := { s.dev with key0 := v.extractLsb' 0 8 } } ∧
      exec (.wrKey1 v) s = .next { s with dev := { s.dev with key1 := v.extractLsb' 0 8 } })

/-- R72, R73: every 16-bit round count is written as given, 0 included; a wider word raises DOMAIN; a write while the engine
runs raises BUSY. -/
def Obligations.RoundsWrite : Prop :=
  ∀ (s : State) (v : Word),
    (s.dev.busy = true → exec (.wrRounds v) s = .next { s with dev := { s.dev with err := .busy } }) ∧
    (s.dev.busy = false → v.extractLsb' 16 16 ≠ 0#16 →
      exec (.wrRounds v) s = .next { s with dev := { s.dev with err := .domain } }) ∧
    (s.dev.busy = false → ∀ n : RoundCount,
      exec (.wrRounds (n.zeroExtend 32)) s = .next { s with dev := { s.dev with rounds := n } })

/-- R62, R63: a write to STATUS clears DONE where bit 1 is 1 and changes nothing else, BUSY or not. -/
def Obligations.StatusWriteClearsDoneOnly : Prop :=
  ∀ (s : State) (v : Word),
    (v.getLsbD 1 = true → exec (.wrStatus v) s = .next { s with dev := { s.dev with done := false } }) ∧
    (v.getLsbD 1 = false → exec (.wrStatus v) s = .next s)

/-- R64: a write to CTRL sets IE to bit 0, whatever the other bits hold and whether or not BUSY = 1. -/
def Obligations.CtrlWriteSetsInterruptEnable : Prop :=
  ∀ (s : State) (v : Word), exec (.wrCtrl v) s = .next { s with dev := { s.dev with ie := v.getLsbD 0 } }

/-- R65, R67, R76, R77: writes to ID, DOUT, ISBOX_LO, ISBOX_HI and the reserved offsets have no effect and no error. -/
def Obligations.WritesWithoutEffect : Prop :=
  ∀ (s : State) (v : Word),
    exec (.wrId v) s = .next s ∧ exec (.wrDout v) s = .next s ∧ exec (.wrIsboxLo v) s = .next s ∧
    exec (.wrIsboxHi v) s = .next s ∧ exec (.wrRsvd24 v) s = .next s ∧ exec (.wrRsvd38 v) s = .next s ∧
    exec (.wrRsvd3C v) s = .next s

/-- R74, R75: a half of SBOX is loaded entry by entry, the other half is kept and SBV is cleared, whatever the word; while the
engine runs the write raises BUSY. -/
def Obligations.SboxHalfWritesClearSbv : Prop :=
  ∀ (s : State) (v : Word),
    (s.dev.busy = true →
      exec (.wrSboxLo v) s = .next { s with dev := { s.dev with err := .busy } } ∧
      exec (.wrSboxHi v) s = .next { s with dev := { s.dev with err := .busy } }) ∧
    (s.dev.busy = false → ∃ T : Lut,
      (∀ (i : Nat) (h : i < 8), T[i] = v.extractLsb' (4 * i) 4 ∧ T[8 + i] = s.dev.sbox[8 + i]) ∧
      exec (.wrSboxLo v) s = .next { s with dev := { s.dev with sbox := T, sbv := false } }) ∧
    (s.dev.busy = false → ∃ T : Lut,
      (∀ (i : Nat) (h : i < 8), T[8 + i] = v.extractLsb' (4 * i) 4 ∧ T[i] = s.dev.sbox[i]) ∧
      exec (.wrSboxHi v) s = .next { s with dev := { s.dev with sbox := T, sbv := false } })

/-- R78: what each write does while BUSY = 1. -/
def Obligations.WritesWhileBusy : Prop :=
  ∀ (s : State) (v : Word), s.dev.busy = true →
    (∀ i ∈ [Instr.wrCmd v, .wrDin v, .wrKey0 v, .wrKey1 v, .wrRounds v, .wrSboxLo v, .wrSboxHi v],
      exec i s = .next { s with dev := { s.dev with err := .busy } }) ∧
    exec (.wrStatus v) s = .next { s with dev := { s.dev with done := s.dev.done && !v.getLsbD 1 } } ∧
    exec (.wrCtrl v) s = .next { s with dev := { s.dev with ie := v.getLsbD 0 } } ∧
    (∀ i ∈ [Instr.wrId v, .wrDout v, .wrIsboxLo v, .wrIsboxHi v, .wrRsvd24 v, .wrRsvd38 v, .wrRsvd3C v],
      exec i s = .next s)

/-- R208: the order of the checks. BUSY comes before the word of a command and before DOMAIN; ILLEGAL_CMD comes before the
table check; and one transaction records one code. -/
def Obligations.ErrorPriority : Prop :=
  (∀ (s : State) (c : Word), s.dev.busy = true →
    exec (.wrCmd c) s = .next { s with dev := { s.dev with err := .busy } }) ∧
  (∀ (s : State) (c : Word), s.dev.busy = false → legal c = false →
    exec (.wrCmd c) s = .next { s with dev := { s.dev with err := .illegalCmd, done := true } }) ∧
  (∀ (s : State) (c : Word) (cmd : Cmd), s.dev.busy = false → decodeCommand c = .ok cmd → cmd.readsLut = true →
    s.dev.sbv = false → exec (.wrCmd c) s = .next { s with dev := { s.dev with err := .invalidSbox, done := true } }) ∧
  (∀ (s : State) (v : Word), s.dev.busy = true →
    ∀ i ∈ [Instr.wrDin v, .wrKey0 v, .wrKey1 v, .wrRounds v],
      exec i s = .next { s with dev := { s.dev with err := .busy } }) ∧
  (∀ (s : State) (v : Word), s.dev.busy = false →
    (v.extractLsb' 8 24 ≠ 0#24 → ∀ i ∈ [Instr.wrDin v, .wrKey0 v, .wrKey1 v],
      exec i s = .next { s with dev := { s.dev with err := .domain } }) ∧
    (v.extractLsb' 16 16 ≠ 0#16 → exec (.wrRounds v) s = .next { s with dev := { s.dev with err := .domain } }))

/-- R68: a register write that raises an error changes ERR and nothing else, so `irq` does not change either. -/
def Obligations.RegisterWriteErrorsChangeErrOnly : Prop :=
  ∀ (i : Instr) (s t : State), i.presentsCommand = false → exec i s = .next t → t.dev.err ≠ s.dev.err →
    t = { s with dev := { s.dev with err := t.dev.err } } ∧ (t.dev.err = .domain ∨ t.dev.err = .busy) ∧
    t.dev.irq = s.dev.irq

/-! ## Commands -/

/-- R116: NOP's word; it clears ERR and sets DONE, with the refusals of a command; and the example STATUS 0x24 to 0x06. -/
def Obligations.NopClearsErrAndCompletes : Prop :=
  encode .nop = .command 0x00000000#32 ∧
  ObeysLifecycle .nop 0x0 false (fun d => { d with err := .none, done := true }) ∧
  (∀ s : State, s.dev.statusWord = 0x00000024#32 →
    ∃ t, exec .nop s = .next t ∧ t.dev.statusWord = 0x00000006#32)

/-- R126, R127: the words and the results of SUB and SUBI, with their refusals. -/
def Obligations.SubAndSubiDeliverTheSubstitution : Prop :=
  (encode (.sub .din) = .command 0x00000001#32 ∧ encode (.sub .dout) = .command 0x00000021#32 ∧
    encode (.subi .din) = .command 0x00000002#32 ∧ encode (.subi .dout) = .command 0x00000022#32) ∧
  ∀ src : Src,
    ObeysLifecycle (.sub src) 0x1 true
      (fun d => { d with dout := sub (d.source src) d.sbox, err := .none, done := true }) ∧
    ObeysLifecycle (.subi src) 0x2 true
      (fun d => { d with dout := sub (d.source src) d.isbox, err := .none, done := true })

/-- R143: the words and the result of KXOR, which needs no valid table. -/
def Obligations.KxorDeliversTheXorWithTheKey : Prop :=
  (encode (.kxor .key0 .din) = .command 0x00000003#32 ∧ encode (.kxor .key1 .din) = .command 0x00000013#32 ∧
    encode (.kxor .key0 .dout) = .command 0x00000023#32 ∧ encode (.kxor .key1 .dout) = .command 0x00000033#32) ∧
  ∀ src : Src,
    ObeysLifecycle (.kxor .key0 src) 0x3 false
      (fun d => { d with dout := d.source src ^^^ d.key0, err := .none, done := true }) ∧
    ObeysLifecycle (.kxor .key1 src) 0x3 false
      (fun d => { d with dout := d.source src ^^^ d.key1, err := .none, done := true })

/-- R144, R145: the words, and one round and one inverse round with the selected key: the XOR comes first in RND and last in
IRND. -/
def Obligations.RndAndIrndDeliverARound : Prop :=
  (encode (.rnd .key0 .din) = .command 0x00000004#32 ∧ encode (.rnd .key1 .din) = .command 0x00000014#32 ∧
    encode (.rnd .key0 .dout) = .command 0x00000024#32 ∧ encode (.rnd .key1 .dout) = .command 0x00000034#32 ∧
    encode (.irnd .key0 .din) = .command 0x00000005#32 ∧ encode (.irnd .key1 .din) = .command 0x00000015#32 ∧
    encode (.irnd .key0 .dout) = .command 0x00000025#32 ∧ encode (.irnd .key1 .dout) = .command 0x00000035#32) ∧
  ∀ src : Src,
    ObeysLifecycle (.rnd .key0 src) 0x4 true
      (fun d => { d with dout := sub (d.source src ^^^ d.key0) d.sbox, err := .none, done := true }) ∧
    ObeysLifecycle (.rnd .key1 src) 0x4 true
      (fun d => { d with dout := sub (d.source src ^^^ d.key1) d.sbox, err := .none, done := true }) ∧
    ObeysLifecycle (.irnd .key0 src) 0x5 true
      (fun d => { d with dout := sub (d.source src) d.isbox ^^^ d.key0, err := .none, done := true }) ∧
    ObeysLifecycle (.irnd .key1 src) 0x5 true
      (fun d => { d with dout := sub (d.source src) d.isbox ^^^ d.key1, err := .none, done := true })

/-- The source operand of each of the eight commands that use SRC: DIN for SRC = 0, DOUT for SRC = 1, read at acceptance, so
before the command writes DOUT; the engine is loaded with it (R94, R118). -/
def Obligations.SourceIsReadBeforeDoutIsWritten : Prop :=
  ∀ (s : State) (src : Src) (block : Block), s.dev.busy = false →
    (src = .din ∧ block = s.dev.din ∨ src = .dout ∧ block = s.dev.dout) →
    exec (.kxor .key0 src) s = .next { s with dev := { s.dev with
      dout := block ^^^ s.dev.key0, err := .none, done := true } } ∧
    exec (.kxor .key1 src) s = .next { s with dev := { s.dev with
      dout := block ^^^ s.dev.key1, err := .none, done := true } } ∧
    (s.dev.sbv = true →
      exec (.sub src) s = .next { s with dev := { s.dev with
        dout := sub block s.dev.sbox, err := .none, done := true } } ∧
      exec (.subi src) s = .next { s with dev := { s.dev with
        dout := sub block s.dev.isbox, err := .none, done := true } } ∧
      exec (.rnd .key0 src) s = .next { s with dev := { s.dev with
        dout := sub (block ^^^ s.dev.key0) s.dev.sbox, err := .none, done := true } } ∧
      exec (.rnd .key1 src) s = .next { s with dev := { s.dev with
        dout := sub (block ^^^ s.dev.key1) s.dev.sbox, err := .none, done := true } } ∧
      exec (.irnd .key0 src) s = .next { s with dev := { s.dev with
        dout := sub block s.dev.isbox ^^^ s.dev.key0, err := .none, done := true } } ∧
      exec (.irnd .key1 src) s = .next { s with dev := { s.dev with
        dout := sub block s.dev.isbox ^^^ s.dev.key1, err := .none, done := true } } ∧
      exec (.enc src) s = .next { s with dev := { s.dev with
        engOp := .enc, engX := block, engI := 0#16, engN := s.dev.rounds, busy := true, err := .none, done := false } } ∧
      exec (.enc2 src) s = .next { s with dev := { s.dev with
        engOp := .enc, engX := block, engI := 0#16, engN := 2#16, busy := true, err := .none, done := false } } ∧
      exec (.dec src) s = .next { s with dev := { s.dev with
        engOp := .dec, engX := block, engI := 0#16, engN := s.dev.rounds, busy := true, err := .none, done := false } })

/-- R125: SBCHK commits a bijection and its inverse, refuses any other table with INVALID_SBOX and leaves SBV and ISBOX
then, is never refused for SBV = 0, and with SBV = 1 writes the values that are there. -/
def Obligations.SbchkCommitsABijection : Prop :=
  encode .sbchk = .command 0x00000009#32 ∧
  ObeysLifecycle .sbchk 0x9 false (fun d =>
    if bijective d.sbox then { d with isbox := invert d.sbox, sbv := true, err := .none, done := true }
    else { d with err := .invalidSbox, done := true }) ∧
  (∀ s : State, s.dev.Inv → s.dev.busy = false → s.dev.sbv = true →
    exec .sbchk s = .next { s with dev := { s.dev with err := .none, done := true } })

/-- The acceptance of ENC, ENC2 and DEC: the engine is loaded, BUSY is set, DONE is 0 and DOUT is unchanged; the count is
ROUNDS, and 2 for ENC2; the refusals are those of a command. -/
def Obligations.EngineCommandsStartTheEngine : Prop :=
  ∀ src : Src,
    ObeysLifecycle (.enc src) 0x6 true (fun d => { d with
      engOp := .enc, engX := d.source src, engI := 0#16, engN := d.rounds, busy := true, err := .none, done := false }) ∧
    ObeysLifecycle (.enc2 src) 0x7 true (fun d => { d with
      engOp := .enc, engX := d.source src, engI := 0#16, engN := 2#16, busy := true, err := .none, done := false }) ∧
    ObeysLifecycle (.dec src) 0x8 true (fun d => { d with
      engOp := .dec, engX := d.source src, engI := 0#16, engN := d.rounds, busy := true, err := .none, done := false })

/-- R113: the table check of the seven commands that read a LUT. NOP, KXOR and SBCHK are not subject to it: NOP and KXOR
complete without error whatever the table, SBCHK does on a bijection. -/
def Obligations.TableCheckRefusesUncommittedTables : Prop :=
  (∀ (cmd : Cmd) (s : State), cmd.readsLut = true → s.dev.busy = false → s.dev.sbv = false →
    exec cmd.toInstr s = .next { s with dev := { s.dev with err := .invalidSbox, done := true } }) ∧
  (∀ (cmd : Cmd) (s : State), cmd.readsLut = false → s.dev.busy = false →
    (cmd = .sbchk → bijective s.dev.sbox = true) →
    ∃ t, exec cmd.toInstr s = .next t ∧ t.dev.err = .none ∧ t.dev.done = true)

/-- R111: an accepted command ends with DONE = 1 in its own transaction, except an ENC, ENC2 or DEC that passes its checks,
which leaves DONE = 0 and BUSY = 1. -/
def Obligations.AcceptedCommandsCompleteOrStartTheEngine : Prop :=
  ∀ (s : State) (c : Word), s.dev.busy = false →
    ∃ t, exec (.wrCmd c) s = .next t ∧
      ((t.dev.done = true ∧ t.dev.busy = false) ∨
       (t.dev.done = false ∧ t.dev.busy = true ∧ t.dev.err = .none ∧ s.dev.sbv = true ∧ t.dev.dout = s.dev.dout ∧
        ∃ src, decodeCommand c ∈ [Except.ok (Cmd.enc src), .ok (.enc2 src), .ok (.dec src)]))

/-- What no command writes (DIN, KEY0, KEY1, ROUNDS, SBOX, CTRL), that only SBCHK writes ISBOX and SBV, and that only SUB,
SUBI, KXOR, RND, IRND that pass their checks write DOUT in their transaction. -/
def Obligations.StateCommandsNeverWrite : Prop :=
  ∀ (i : Instr) (s t : State), i.presentsCommand = true → exec i s = .next t →
    (t.dev.din = s.dev.din ∧ t.dev.key0 = s.dev.key0 ∧ t.dev.key1 = s.dev.key1 ∧ t.dev.rounds = s.dev.rounds ∧
      t.dev.sbox = s.dev.sbox ∧ t.dev.ie = s.dev.ie ∧ t.rstN = s.rstN ∧ t.host = s.host ∧ t.sched = s.sched ∧
      t.reads = s.reads) ∧
    (i.command? ≠ some .sbchk → t.dev.isbox = s.dev.isbox ∧ t.dev.sbv = s.dev.sbv) ∧
    (t.dev.dout ≠ s.dev.dout → s.dev.busy = false ∧
      ∃ cmd, i.command? = some cmd ∧ cmd.deliversAtOnce = true ∧ (cmd.readsLut = true → s.dev.sbv = true))

/-! ## The cipher -/

/-- R120, R128: substitution works on the two nibbles of a Block, each lane on its own, with one table. -/
def Obligations.SubstitutionActsOnEachNibble : Prop :=
  ∀ (b : Block) (T : Lut),
    (sub b T).extractLsb' 4 4 = T[(b.extractLsb' 4 4).toNat]'(b.extractLsb' 4 4).isLt ∧
    (sub b T).extractLsb' 0 4 = T[(b.extractLsb' 0 4).toNat]'(b.extractLsb' 0 4).isLt ∧
    (∀ b' : Block, b'.extractLsb' 4 4 = b.extractLsb' 4 4 → (sub b' T).extractLsb' 4 4 = (sub b T).extractLsb' 4 4) ∧
    (∀ b' : Block, b'.extractLsb' 0 4 = b.extractLsb' 0 4 → (sub b' T).extractLsb' 0 4 = (sub b T).extractLsb' 0 4)

/-- R121: a table is a bijection when its entries are pairwise distinct, equivalently when every value occurs exactly once. -/
def Obligations.BijectiveMeansEveryValueOnce : Prop :=
  ∀ T : Lut,
    (bijective T = true ↔ ∀ (i j : Nat) (hi : i < 16) (hj : j < 16), T[i] = T[j] → i = j) ∧
    (bijective T = true ↔ ∀ v : Nibble, T.toList.count v = 1)

/-- R122: entry `v` of the inverse of a bijection is the unique index at which `v` stands. -/
def Obligations.InvertGivesTheUniqueIndex : Prop :=
  ∀ T : Lut, bijective T = true → ∀ v i : Nibble, lookup (invert T) v = i ↔ lookup T i = v

/-- R124: the round-trip laws, whenever SBV = 1. -/
def Obligations.SubstitutionRoundTrips : Prop :=
  ∀ d : Device, d.Inv → d.sbv = true →
    (∀ v : Nibble, lookup d.isbox (lookup d.sbox v) = v ∧ lookup d.sbox (lookup d.isbox v) = v) ∧
    (∀ b : Block, sub (sub b d.sbox) d.isbox = b ∧ sub (sub b d.isbox) d.sbox = b)

/-- R142: a round and its inverse round undo each other, whenever SBV = 1. -/
def Obligations.RoundAndInverseRoundUndoEachOther : Prop :=
  ∀ d : Device, d.Inv → d.sbv = true → ∀ x k : Block, d.iround (d.round x k) k = x ∧ d.round (d.iround x k) k = x

/-- R160, R161: the loops. Round `i` uses KEY(i mod 2), the XOR first; decryption undoes the rounds from n-1 down to 0; and
the first key it uses is KEY1 when `n` is even, KEY0 when `n` is odd. -/
def Obligations.CipherLoops : Prop :=
  ∀ (d : Device) (x : Block) (n : Nat),
    d.encrypt x 0 = x ∧ d.decrypt x 0 = x ∧
    (n % 2 = 0 → d.encrypt x (n + 1) = sub (d.encrypt x n ^^^ d.key0) d.sbox ∧
      d.decrypt x (n + 1) = d.decrypt (sub x d.isbox ^^^ d.key0) n) ∧
    (n % 2 = 1 → d.encrypt x (n + 1) = sub (d.encrypt x n ^^^ d.key1) d.sbox ∧
      d.decrypt x (n + 1) = d.decrypt (sub x d.isbox ^^^ d.key1) n)

/-- R172: decryption and encryption over the same count undo each other whenever SBV = 1, so encryption is a permutation of
the 256 Blocks. -/
def Obligations.EncryptIsAPermutationWithInverseDecrypt : Prop :=
  ∀ d : Device, d.Inv → d.sbv = true → ∀ n : Nat,
    (∀ p : Block, d.decrypt (d.encrypt p n) n = p ∧ d.encrypt (d.decrypt p n) n = p) ∧
    Function.Bijective (fun p : Block => d.encrypt p n)

/-- R170: the period-2 structure, with `T(x) = encrypt(x, 2)`, and the spec's counterexample for odd counts. -/
def Obligations.PeriodTwoStructure : Prop :=
  (∀ (d : Device) (p : Block),
    (∀ r : Nat, d.encrypt p (2 * r) = (fun x => d.encrypt x 2)^[r] p) ∧
    (∀ n : Nat, d.encrypt p (n + 2) = d.encrypt (d.encrypt p 2) n) ∧
    (∀ n : Nat, n % 2 = 0 → d.encrypt p (n + 2) = d.encrypt (d.encrypt p n) 2) ∧
    (∀ (r : Nat) (q : Block), q = d.encrypt p 2 → d.encrypt q (2 * r) = d.encrypt (d.encrypt p (2 * r)) 2)) ∧
  (∀ d : Device, d.sbox = Config.resetSbox → d.key0 = 0x46#8 → d.key1 = 0x08#8 →
    d.encrypt 0x00#8 3 = 0x5B#8 ∧ d.encrypt (d.encrypt 0x00#8 1) 2 = 0xEB#8)

/-- With KEY0 = KEY1 = k every round uses k: the loop is the length-1 schedule's. -/
def Obligations.EqualKeysGiveTheLengthOneSchedule : Prop :=
  ∀ (d : Device) (k : Block), d.key0 = k → d.key1 = k → ∀ (p : Block) (n : Nat),
    d.encrypt p n = (fun x => sub (x ^^^ k) d.sbox)^[n] p

/-- For n >= 1 the chain RND k=0, then RND k=(i mod 2) src=dout for i = 1 .. n-1, computes encrypt(s, n). -/
def Obligations.ChainOfRoundsComputesEncrypt : Prop :=
  ∀ (s : State) (src : Src) (n : Nat), s.dev.busy = false → s.dev.sbv = true → 1 ≤ n →
    execAll (.rnd .key0 src :: (List.range' 1 (n - 1)).map (fun i => .rnd (if i % 2 = 0 then .key0 else .key1) .dout)) s =
      .next { s with dev := { s.dev with dout := s.dev.encrypt (s.dev.source src) n, err := .none, done := true } }

/-! ## The engine -/

/-- R165, R166: the engine's forward and inverse steps, each in the engine's turn, and that the host can see neither. -/
def Obligations.EngineStepsPerformOneRound : Prop :=
  ∀ s : State, s.turn = .engine → s.rstN = true → s.dev.engI < s.dev.engN →
    (s.dev.engOp = .enc → step s = .next { s with sched := s.sched.tail, dev := { s.dev with
      engX := s.dev.round s.dev.engX (if s.dev.engI.toNat % 2 = 0 then s.dev.key0 else s.dev.key1),
      engI := s.dev.engI + 1#16 } }) ∧
    (s.dev.engOp = .dec → step s = .next { s with sched := s.sched.tail, dev := { s.dev with
      engX := s.dev.iround s.dev.engX
        (if (s.dev.engN.toNat - 1 - s.dev.engI.toNat) % 2 = 0 then s.dev.key0 else s.dev.key1),
      engI := s.dev.engI + 1#16 } }) ∧
    (s.dev.engI + 1#16).toNat = s.dev.engI.toNat + 1 ∧
    (∀ t, step s = .next t → ∀ r : Reg, busRead r t.dev = busRead r s.dev)

/-- The engine's completion step: the result reaches DOUT, the engine is idle, BUSY falls and DONE rises; ERR is not
cleared. -/
def Obligations.EngineCompletionDeliversTheBlock : Prop :=
  ∀ s : State, s.turn = .engine → s.rstN = true → s.dev.engOp ≠ .idle → s.dev.engI = s.dev.engN →
    step s = .next { s with sched := s.sched.tail, dev := { s.dev with
      dout := s.dev.engX, engOp := .idle, busy := false, done := true } }

/-- No host transaction can change the engine, the configuration, DIN or DOUT while BUSY = 1, or end BUSY. -/
def Obligations.HostCannotDisturbARunningEngine : Prop :=
  ∀ (i : Instr) (s t : State), s.dev.busy = true → exec i s = .next t →
    t.dev.engOp = s.dev.engOp ∧ t.dev.engX = s.dev.engX ∧ t.dev.engI = s.dev.engI ∧ t.dev.engN = s.dev.engN ∧
    t.dev.sameConfig s.dev ∧ t.dev.sbv = s.dev.sbv ∧ t.dev.din = s.dev.din ∧ t.dev.dout = s.dev.dout ∧
    t.dev.busy = true

/-- Every step of a machine whose engine is computing `r` in `n` rounds, whoever moves, keeps it computing `r` with DOUT and
the configuration unchanged, or is the completion that delivers `r`; only reset can prevent that. -/
def Obligations.EngineDeliversItsResultUnderEveryInterleaving : Prop :=
  ∀ (r : Block) (n : RoundCount) (s t : State), s.rstN = true → t.rstN = true → s.dev.Computing r n → step s = .next t →
    (t.dev.Computing r n ∧ t.dev.sameConfig s.dev ∧ t.dev.dout = s.dev.dout) ∨
    (s.turn = .engine ∧ s.dev.engI = n ∧ t.dev.dout = r ∧ t.dev.busy = false ∧ t.dev.done = true ∧
      t.dev.engOp = .idle ∧ t.dev.sameConfig s.dev ∧ t.dev.err = s.dev.err)

/-- An ENC, ENC2 or DEC that passes its checks leaves the engine computing encrypt(s, ROUNDS), encrypt(s, 2) or
decrypt(s, ROUNDS), `s` and the configuration being those held at acceptance. -/
def Obligations.AcceptedEngineCommandComputesItsCipher : Prop :=
  ∀ (s : State) (src : Src), s.dev.busy = false → s.dev.sbv = true →
    (∃ t, exec (.enc src) s = .next t ∧
      t.dev.Computing (s.dev.encrypt (s.dev.source src) s.dev.rounds.toNat) s.dev.rounds) ∧
    (∃ t, exec (.enc2 src) s = .next t ∧ t.dev.Computing (s.dev.encrypt (s.dev.source src) 2) 2#16) ∧
    (∃ t, exec (.dec src) s = .next t ∧
      t.dev.Computing (s.dev.decrypt (s.dev.source src) s.dev.rounds.toNat) s.dev.rounds)

/-- Over any interleaving without reset, the engine completes with its result after exactly ENG_N + 1 engine steps counted
from ENG_I = 0, however many host transactions fall among them, and not before. A host turn with no line left changes
nothing (notes/assumptions/7.md). -/
def Obligations.EngineCompletesAfterExactlyCountPlusOneSteps : Prop :=
  ∀ (r : Block) (n : RoundCount) (s : State) (turns rest : List Turn),
    s.rstN = true → s.dev.Computing r n → s.sched = turns ++ rest → (∀ level, Turn.rst level ∉ turns) →
    (turns.count .engine ≤ n.toNat - s.dev.engI.toNat →
      ∃ t, runSteps turns.length s = .next t ∧ t.dev.Computing r n ∧ t.dev.dout = s.dev.dout ∧
        t.dev.engI.toNat = s.dev.engI.toNat + turns.count .engine) ∧
    (turns.count .engine = n.toNat - s.dev.engI.toNat + 1 → turns.getLast? = some .engine →
      ∃ t, runSteps turns.length s = .next t ∧ t.dev.dout = r ∧ t.dev.busy = false ∧ t.dev.done = true ∧
        t.dev.engOp = .idle)

/-- The program ENC, WAIT, DEC src=dout, WAIT gives the source block back, for every table that SBV = 1 admits, every pair of
keys and every ROUNDS; the two WAITs end with a read of STATUS = 0x06, and then the run has ended. The engine moves first
wherever it can (notes/assumptions/2.md). -/
def Obligations.EncryptThenDecryptProgramRestoresTheSource : Prop :=
  ∀ (s : State) (src : Src), Inv s → s.rstN = true → s.dev.busy = false → s.dev.sbv = true → s.sched = [] →
    s.host = [cmdLine (.enc src), .wait, cmdLine (.dec .dout), .wait] →
    ∃ t, runSteps (2 * s.dev.rounds.toNat + 6) s = .next t ∧ Finished t ∧
      t.dev.dout = s.dev.source src ∧ t.dev.done = true ∧ t.dev.err = .none ∧ t.dev.sameConfig s.dev ∧
      t.reads = s.reads ++ [0x00000006#32, 0x00000006#32]

/-- LOADSB loads and commits a bijection; any other table stays loaded but uncommitted, with INVALID_SBOX and the old
ISBOX. The interleaving is the default one (notes/assumptions/2.md). -/
def Obligations.LoadSbCommitsABijection : Prop :=
  ∀ (s : State) (T : Lut), Inv s → s.rstN = true → s.dev.busy = false → s.sched = [] → s.host = loadSbLines T →
    (bijective T = true → runSteps 3 s = .next { s with host := [], dev := { s.dev with
      sbox := T, isbox := invert T, sbv := true, err := .none, done := true } }) ∧
    (bijective T = false → runSteps 3 s = .next { s with host := [], dev := { s.dev with
      sbox := T, sbv := false, err := .invalidSbox, done := true } })

/-! ## Reset -/

/-- R230, R232: while `rst_n` = 0, and when it returns to 1, every register has its reset value; a running engine is
stopped and its result is lost. That the host's lines and the recorded reads, which are outside SBC8, survive a reset is the
model's choice (notes/assumptions/14.md). -/
def Obligations.ResetGivesEveryRegisterItsResetValue : Prop :=
  ∀ (s : State) (level : Bool), s.turn = .rst level → (level = false ∨ s.rstN = false) →
    ∃ t, step s = .next t ∧ t.rstN = level ∧ t.host = s.host ∧ t.reads = s.reads ∧ t.sched = s.sched.tail ∧
      t.dev.engOp = .idle ∧ t.dev.busy = false ∧ t.dev.done = false ∧ t.dev.err = .none ∧ t.dev.sbv = true ∧
      t.dev.ie = false ∧ t.dev.dout = 0x00#8 ∧ t.dev.irq = false ∧
      busRead .cmd t.dev = 0x00000000#32 ∧ busRead .status t.dev = 0x00000004#32 ∧ busRead .ctrl t.dev = 0x00000000#32 ∧
      busRead .id t.dev = 0x53420100#32 ∧ busRead .din t.dev = 0x00000000#32 ∧ busRead .dout t.dev = 0x00000000#32 ∧
      busRead .key0 t.dev = 0x00000000#32 ∧ busRead .key1 t.dev = 0x00000000#32 ∧
      busRead .rounds t.dev = 0x00000064#32 ∧ busRead .rsvd24 t.dev = 0x00000000#32 ∧
      busRead .sboxLo t.dev = 0xBC91385D#32 ∧ busRead .sboxHi t.dev = 0x0472AFE6#32 ∧
      busRead .isboxLo t.dev = 0xD81E3C4F#32 ∧ busRead .isboxHi t.dev = 0xA9067B52#32 ∧
      busRead .rsvd38 t.dev = 0x00000000#32 ∧ busRead .rsvd3C t.dev = 0x00000000#32

/-- While `rst_n` = 0 no transaction is performed and the engine takes no step: SBC8 does not move and no read returns
(notes/assumptions/6.md says what becomes of the host's line). -/
def Obligations.NothingMovesWhileResetIsAsserted : Prop :=
  ∀ s t : State, s.rstN = false → (∀ level, s.turn ≠ .rst level) → step s = .next t →
    t.dev = s.dev ∧ t.reads = s.reads ∧ t.rstN = false

/-! ## Invariants and whole-machine rules -/

/-- Every step keeps the invariant: BUSY exactly when the engine is not idle, ENG_I at most ENG_N, DONE = 0 and a committed
table while BUSY, the LUT invariant, ISBOX a bijection, and the reset values while reset is asserted (those of ENG_X, ENG_I
and ENG_N are the model's choice, notes/assumptions/5.md). -/
def Obligations.EveryStepKeepsTheInvariant : Prop :=
  ∀ s t : State, Inv s → step s = .next t → Inv t

/-- The reset state has the invariant. -/
def Obligations.ResetStateHasTheInvariant : Prop :=
  Inv State.reset

/-- DONE rises only when a command is accepted or the engine completes, and falls only when a command is accepted, STATUS is
written with bit 1 = 1, or reset is asserted or released. -/
def Obligations.DoneChangesOnlyByItsCauses : Prop :=
  ∀ s t : State, step s = .next t → t.dev.done ≠ s.dev.done →
    (t.dev.done = true →
      (∃ i, s.issues = some i ∧ i.presentsCommand = true ∧ s.dev.busy = false) ∨
      (s.turn = .engine ∧ s.dev.engOp ≠ .idle ∧ s.dev.engI = s.dev.engN)) ∧
    (t.dev.done = false →
      (∃ i, s.issues = some i ∧ i.presentsCommand = true ∧ s.dev.busy = false) ∨
      (∃ v : Word, s.issues = some (.wrStatus v) ∧ v.getLsbD 1 = true) ∨
      (∃ level, s.turn = .rst level))

/-- `irq` is the level IE AND DONE, and it rises only with DONE or with IE. -/
def Obligations.IrqRisesOnlyWithDoneOrEnable : Prop :=
  ∀ s t : State, (s.dev.irq = true ↔ s.dev.ie = true ∧ s.dev.done = true) ∧
    (step s = .next t → s.dev.irq = false → t.dev.irq = true →
      (∃ v : Word, s.issues = some (.wrCtrl v) ∧ v.getLsbD 0 = true ∧ s.dev.done = true) ∨
      (∃ i, s.issues = some i ∧ i.presentsCommand = true ∧ s.dev.busy = false) ∨
      (s.turn = .engine ∧ s.dev.engOp ≠ .idle ∧ s.dev.engI = s.dev.engN))

/-- ERR keeps an error's code until a command is accepted or reset: no read, no STATUS write and no engine step clears it;
and the engine never changes it. -/
def Obligations.ErrIsClearedOnlyByAcceptanceOrReset : Prop :=
  ∀ s t : State, step s = .next t →
    (s.dev.err ≠ .none → t.dev.err = .none →
      (∃ i, s.issues = some i ∧ i.presentsCommand = true ∧ s.dev.busy = false) ∨ (∃ level, s.turn = .rst level)) ∧
    (s.turn = .engine → t.dev.err = s.dev.err)

/-- SBV rises only by a successful SBCHK or by reset. -/
def Obligations.SbvRisesOnlyByACheckedBijection : Prop :=
  ∀ s t : State, step s = .next t → s.dev.sbv = false → t.dev.sbv = true →
    (∃ i, s.issues = some i ∧ i.command? = some .sbchk ∧ bijective s.dev.sbox = true ∧ t.dev.isbox = invert s.dev.sbox) ∨
    (∃ level, s.turn = .rst level)

/-- DOUT changes only by a command that delivers at once and passes its checks, by the engine's completion, or by reset. -/
def Obligations.DoutChangesOnlyByResults : Prop :=
  ∀ s t : State, step s = .next t → t.dev.dout ≠ s.dev.dout →
    (∃ i cmd, s.issues = some i ∧ i.command? = some cmd ∧ cmd.deliversAtOnce = true ∧ s.dev.busy = false ∧
      (cmd.readsLut = true → s.dev.sbv = true)) ∨
    (s.turn = .engine ∧ s.dev.engOp ≠ .idle ∧ s.dev.engI = s.dev.engN ∧ t.dev.dout = s.dev.engX) ∨
    (∃ level, s.turn = .rst level)
end

