-- ==== Sys2Proof/Tests/Slice0.lean ====
section
/-! SUPPORT. Tests of the model. Every expected value is the spec's: the encodings of 30_encoding.md and the vectors of
95_test_vectors.md, or hand calculation from the rule named. Then one witness for each clause of a statement that has
hypotheses. -/

open Sys2Proof Sys2Proof.Machine

namespace Sys2Proof.Tests

/-- The state with SBC8 changed by `f` from reset. -/
def from0 (f : Device → Device) : State := State.reset.onDev f

/-- The reset state with a block in DIN. -/
def withDin (b : Block) : State := from0 fun d => { d with din := b }

/-- The reset state with DIN and the two keys. -/
def withKeys (b k0 k1 : Block) : State := from0 fun d => { d with din := b, key0 := k0, key1 := k1 }

/-- The reset state with SBOX not committed. -/
def uncommitted : State := from0 fun d => { d with sbv := false }

/-- The reset state after `CMD ENC`, the engine having performed nothing yet. -/
def busyEnc : State := from0 fun d => { d with engOp := .enc, engX := 0x00#8, engI := 0#16, engN := 100#16, busy := true }

/-- The same after `CMD DEC`. -/
def busyDec : State := from0 fun d => { d with engOp := .dec, engX := 0x00#8, engI := 0#16, engN := 100#16, busy := true }

/-- What `f` sees in the next state; none where there is none. -/
def seen {α : Type} (f : State → α) (o : Host.Outcome State Fault Refusal) : Option α :=
  match o with
  | .next t => some (f t)
  | .fault _ => none
  | .refused _ => none

/-- DOUT and STATUS. -/
def doutStatus (t : State) : Block × Word := (t.dev.dout, t.dev.statusWord)

/-! ## WellFormed refuses -/

/-- R95 (1): bit 6, and bit 31, of the reserved bits (the words 0x40 and 0x80000006 of 95_test_vectors.md 2.4). -/
theorem test_illformed_reserved_bits :
    (PortWord.command 0x00000040#32).wellFormed = false ∧ (PortWord.command 0x80000006#32).wellFormed = false := by decide

/-- R95 (2): the reserved operations 0xA and 0xF. -/
theorem test_illformed_reserved_op :
    (PortWord.command 0x0000000A#32).wellFormed = false ∧ (PortWord.command 0x0000000F#32).wellFormed = false := by decide

/-- R95 (3): KSEL in NOP, SUB, ENC, DEC and SBCHK. -/
theorem test_illformed_ksel :
    [0x10#32, 0x11#32, 0x16#32, 0x18#32, 0x19#32].map (fun c => (PortWord.command c).wellFormed) =
      [false, false, false, false, false] := by decide

/-- R95 (4): SRC in NOP and in SBCHK. -/
theorem test_illformed_src :
    (PortWord.command 0x00000020#32).wellFormed = false ∧ (PortWord.command 0x00000029#32).wellFormed = false := by decide

/-- I1: where DEC does not exist, it is not well formed; every other instruction is. -/
theorem test_illformed_dec_without_hasDec :
    (Instr.dec .din).wellFormedWith false = false ∧ (Instr.enc .din).wellFormedWith false = true := by decide

/-- The decoder's reason for each of the four checks. -/
theorem test_decode_rejects_by_name :
    decodeCommand 0x00000040#32 = .error .reservedBits ∧ decodeCommand 0x0000000A#32 = .error .reservedOp ∧
    decodeCommand 0x00000036#32 = .error .kselUnused ∧ decodeCommand 0x00000029#32 = .error .srcUnused := by decide

/-! ## Decoding: words written out from R92, R93 (commands) and R91, R21 (transactions) -/

/-- `{26'b0, SRC, KSEL, OP}`. -/
theorem test_decode_sbox_family :
    decode (.command 0b00000000000000000000000000_0_0_0000#32) = .ok .nop ∧
    decode (.command 0b00000000000000000000000000_1_0_0001#32) = .ok (.sub .dout) ∧
    decode (.command 0b00000000000000000000000000_0_0_0010#32) = .ok (.subi .din) ∧
    decode (.command 0b00000000000000000000000000_0_0_1001#32) = .ok .sbchk := by decide

theorem test_decode_round_family :
    decode (.command 0b00000000000000000000000000_0_1_0011#32) = .ok (.kxor .key1 .din) ∧
    decode (.command 0b00000000000000000000000000_1_0_0100#32) = .ok (.rnd .key0 .dout) ∧
    decode (.command 0b00000000000000000000000000_1_1_0101#32) = .ok (.irnd .key1 .dout) := by decide

theorem test_decode_engine_family :
    decode (.command 0b00000000000000000000000000_0_0_0110#32) = .ok (.enc .din) ∧
    decode (.command 0b00000000000000000000000000_1_0_0111#32) = .ok (.enc2 .dout) ∧
    decode (.command 0b00000000000000000000000000_1_0_1000#32) = .ok (.dec .dout) := by decide

/-- Bit 4 is `we = 0`, bits [3:0] are `addr`; the data word does not matter. -/
theorem test_decode_reads :
    decode (.transaction 0b0_0000#5 0xFFFFFFFF#32) = .ok .rdCmd ∧ decode (.transaction 0b0_0001#5 0#32) = .ok .rdStatus ∧
    decode (.transaction 0b0_0010#5 0#32) = .ok .rdCtrl ∧ decode (.transaction 0b0_0011#5 0#32) = .ok .rdId ∧
    decode (.transaction 0b0_0100#5 0#32) = .ok .rdDin ∧ decode (.transaction 0b0_0101#5 0#32) = .ok .rdDout ∧
    decode (.transaction 0b0_0110#5 0#32) = .ok .rdKey0 ∧ decode (.transaction 0b0_0111#5 0#32) = .ok .rdKey1 ∧
    decode (.transaction 0b0_1000#5 0#32) = .ok .rdRounds ∧ decode (.transaction 0b0_1001#5 0#32) = .ok .rdRsvd24 ∧
    decode (.transaction 0b0_1010#5 0#32) = .ok .rdSboxLo ∧ decode (.transaction 0b0_1011#5 0#32) = .ok .rdSboxHi ∧
    decode (.transaction 0b0_1100#5 0#32) = .ok .rdIsboxLo ∧ decode (.transaction 0b0_1101#5 0#32) = .ok .rdIsboxHi ∧
    decode (.transaction 0b0_1110#5 0#32) = .ok .rdRsvd38 ∧ decode (.transaction 0b0_1111#5 0#32) = .ok .rdRsvd3C := by
  decide

/-- Bit 4 is `we = 1`. -/
theorem test_decode_writes :
    decode (.transaction 0b1_0000#5 0x11#32) = .ok (.wrCmd 0x11#32) ∧
    decode (.transaction 0b1_0001#5 0x2#32) = .ok (.wrStatus 0x2#32) ∧
    decode (.transaction 0b1_0010#5 0x1#32) = .ok (.wrCtrl 0x1#32) ∧
    decode (.transaction 0b1_0011#5 0x3#32) = .ok (.wrId 0x3#32) ∧
    decode (.transaction 0b1_0100#5 0x46#32) = .ok (.wrDin 0x46#32) ∧
    decode (.transaction 0b1_0101#5 0x5#32) = .ok (.wrDout 0x5#32) ∧
    decode (.transaction 0b1_0110#5 0x46#32) = .ok (.wrKey0 0x46#32) ∧
    decode (.transaction 0b1_0111#5 0x8#32) = .ok (.wrKey1 0x8#32) ∧
    decode (.transaction 0b1_1000#5 0x64#32) = .ok (.wrRounds 0x64#32) ∧
    decode (.transaction 0b1_1001#5 0x9#32) = .ok (.wrRsvd24 0x9#32) ∧
    decode (.transaction 0b1_1010#5 0xBC91385D#32) = .ok (.wrSboxLo 0xBC91385D#32) ∧
    decode (.transaction 0b1_1011#5 0x0472AFE6#32) = .ok (.wrSboxHi 0x0472AFE6#32) ∧
    decode (.transaction 0b1_1100#5 0xC#32) = .ok (.wrIsboxLo 0xC#32) ∧
    decode (.transaction 0b1_1101#5 0xD#32) = .ok (.wrIsboxHi 0xD#32) ∧
    decode (.transaction 0b1_1110#5 0xE#32) = .ok (.wrRsvd38 0xE#32) ∧
    decode (.transaction 0b1_1111#5 0xF#32) = .ok (.wrRsvd3C 0xF#32) := by decide

/-- The opcode table's numbering: a command word, a selector byte, a selector byte with its data word; a byte above 31 is no
selector. -/
theorem test_decode_table_words :
    decodeTableWord 32 0x34 = some (.rnd .key1 .dout) ∧ decodeTableWord 32 0x0A = none ∧
    decodeTableWord 8 0b00101 = some .rdDout ∧ decodeTableWord 8 0b10110 = some (.wrKey0 0#32) ∧
    decodeTableWord 40 0x0000004616 = some (.wrKey0 0x46#32) ∧ decodeTableWord 8 0b100000 = none := by decide

/-- `withFetchWord` makes the very next step run the word: SUB on DIN = 0x46 (95_test_vectors.md 2.1). -/
theorem test_fetch_word_runs_next :
    seen doutStatus (step ((withDin 0x46#8).withFetchWord 32 0x01)) = some (0x1C#8, 0x6#32) ∧
    seen (·.reads) (step (State.reset.withFetchWord 8 0b01000)) = some [0x00000064#32] := by decide

/-! ## Commands -/

/-- NOP on STATUS 0x24 gives 0x06 (R116). -/
theorem test_nop : seen doutStatus (exec .nop (from0 fun d => { d with err := .domain })) = some (0x00#8, 0x06#32) := by decide

theorem test_sub : seen doutStatus (exec (.sub .din) (withDin 0x46#8)) = some (0x1C#8, 0x6#32) := by decide

/-- The source is read before DOUT is written: SUB of DOUT = 0x0F gives 0xD0. -/
theorem test_sub_of_dout :
    seen doutStatus (exec (.sub .dout) (from0 fun d => { d with dout := 0x0F#8, din := 0xFF#8 })) = some (0xD0#8, 0x6#32) := by
  decide

theorem test_subi : seen doutStatus (exec (.subi .din) (withDin 0x51#8)) = some (0x14#8, 0x6#32) := by decide

/-- The table check: SUBI with SBV = 0 (95_test_vectors.md 2.1). -/
theorem test_subi_uncommitted : seen doutStatus (exec (.subi .din) uncommitted) = some (0x00#8, 0x12#32) := by decide

theorem test_kxor :
    seen doutStatus (exec (.kxor .key1 .din) (withKeys 0x12#8 0x00#8 0xFF#8)) = some (0xED#8, 0x6#32) := by decide

/-- KXOR is not subject to the table check. -/
theorem test_kxor_uncommitted :
    seen doutStatus (exec (.kxor .key0 .din) (from0 fun d => { d with din := 0x46#8, sbv := false })) =
      some (0x46#8, 0x02#32) := by decide

/-- RND with KEY0 and with KEY1: 0x1C and 0xD6 (95_test_vectors.md 2.2). -/
theorem test_rnd_key_select :
    seen doutStatus (exec (.rnd .key0 .din) (withKeys 0x00#8 0x46#8 0x08#8)) = some (0x1C#8, 0x6#32) ∧
    seen doutStatus (exec (.rnd .key1 .din) (withKeys 0x00#8 0x46#8 0x08#8)) = some (0xD6#8, 0x6#32) := by decide

/-- IRND of 0x51 with 0x1C gives 0x08: the XOR comes last. -/
theorem test_irnd :
    seen doutStatus (exec (.irnd .key1 .din) (withKeys 0x51#8 0x46#8 0x1C#8)) = some (0x08#8, 0x6#32) := by decide

/-- SBCHK commits the table with entries 0 and 1 swapped (95_test_vectors.md 2.1). -/
theorem test_sbchk_commits :
    seen (fun t => (t.dev.statusWord, busRead .isboxLo t.dev, busRead .isboxHi t.dev))
      (exec .sbchk (from0 (Device.loadSbox 0 0xBC9138D5#32))) = some (0x6#32, 0xD80E3C4F#32, 0xA9167B52#32) := by decide

/-- SBCHK refuses a table that holds 5 twice, and ISBOX stays. -/
theorem test_sbchk_refuses :
    seen (fun t => (t.dev.statusWord, busRead .isboxLo t.dev, busRead .isboxHi t.dev))
      (exec .sbchk (from0 (Device.loadSbox 8 0x0472AFE5#32))) = some (0x12#32, 0xD81E3C4F#32, 0xA9067B52#32) := by decide

/-- ENC from reset: STATUS 0x5, a count of 100, DOUT as it was. -/
theorem test_enc :
    seen (fun t => (t.dev.statusWord, t.dev.engOp, t.dev.engN, t.dev.dout))
      (exec (.enc .din) (from0 fun d => { d with dout := 0x51#8 })) = some (0x5#32, EngOp.enc, 100#16, 0x51#8) := by decide

/-- ENC2 takes 2 rounds whatever ROUNDS holds, and runs as `enc`. -/
theorem test_enc2 :
    seen (fun t => (t.dev.statusWord, t.dev.engOp, t.dev.engN, t.dev.engX)) (exec (.enc2 .din) (withDin 0x73#8)) =
      some (0x5#32, EngOp.enc, 2#16, 0x73#8) := by decide

theorem test_dec :
    seen (fun t => (t.dev.statusWord, t.dev.engOp, t.dev.engN, t.dev.engX))
      (exec (.dec .dout) (from0 fun d => { d with dout := 0x73#8, rounds := 0xFFFF#16 })) =
      some (0x5#32, EngOp.dec, 0xFFFF#16, 0x73#8) := by decide

/-- An accepted word that is not legal: STATUS 0x36 (95_test_vectors.md 2.4). -/
theorem test_wrCmd_illegal :
    seen doutStatus (exec (.wrCmd 0x11#32) (withDin 0x46#8)) = some (0x00#8, 0x36#32) ∧
    seen doutStatus (exec (.wrCmd 0x80000006#32) (withDin 0x46#8)) = some (0x00#8, 0x36#32) := by decide

/-- The order of the checks: BUSY beats ILLEGAL_CMD (STATUS 0x45), and ILLEGAL_CMD beats the table (0x32). -/
theorem test_wrCmd_priority :
    seen (·.dev.statusWord) (exec (.wrCmd 0x0A#32) busyEnc) = some 0x45#32 ∧
    seen (·.dev.statusWord) (exec (.wrCmd 0x0A#32) uncommitted) = some 0x32#32 := by decide

/-! ## Reads and writes -/

/-- Every read at reset gives the reset value of R21. -/
theorem test_reads_at_reset :
    [Instr.rdCmd, .rdStatus, .rdCtrl, .rdId, .rdDin, .rdDout, .rdKey0, .rdKey1, .rdRounds, .rdRsvd24, .rdSboxLo, .rdSboxHi,
      .rdIsboxLo, .rdIsboxHi, .rdRsvd38, .rdRsvd3C].map (fun i => seen (·.reads) (exec i State.reset)) =
    [some [0x00000000#32], some [0x00000004#32], some [0x00000000#32], some [0x53420100#32], some [0x00000000#32],
      some [0x00000000#32], some [0x00000000#32], some [0x00000000#32], some [0x00000064#32], some [0x00000000#32],
      some [0xBC91385D#32], some [0x0472AFE6#32], some [0xD81E3C4F#32], some [0xA9067B52#32], some [0x00000000#32],
      some [0x00000000#32]] := by decide

/-- A read tells the four block registers apart. -/
theorem test_reads_of_blocks :
    [Instr.rdDin, .rdDout, .rdKey0, .rdKey1].map (fun i => seen (·.reads)
      (exec i (from0 fun d => { d with din := 0x11#8, dout := 0x22#8, key0 := 0x33#8, key1 := 0x44#8 }))) =
    [some [0x11#32], some [0x22#32], some [0x33#32], some [0x44#32]] := by decide

/-- 0xFF fits a Block; 0x1FF and 0x100 do not: STATUS 0x24, the register stays (95_test_vectors.md 2.5). -/
theorem test_wrDin :
    seen (fun t => (t.dev.din, t.dev.statusWord)) (exec (.wrDin 0xFF#32) State.reset) = some (0xFF#8, 0x4#32) ∧
    seen (fun t => (t.dev.din, t.dev.statusWord)) (exec (.wrDin 0x1FF#32) State.reset) = some (0x00#8, 0x24#32) := by decide

theorem test_wrKey0 :
    seen (fun t => (t.dev.key0, t.dev.key1, t.dev.statusWord)) (exec (.wrKey0 0x46#32) State.reset) =
      some (0x46#8, 0x00#8, 0x4#32) ∧
    seen (fun t => (t.dev.key0, t.dev.key1, t.dev.statusWord)) (exec (.wrKey0 0x00#32) busyEnc) =
      some (0x00#8, 0x00#8, 0x45#32) := by decide

theorem test_wrKey1 :
    seen (fun t => (t.dev.key0, t.dev.key1, t.dev.statusWord)) (exec (.wrKey1 0x08#32) State.reset) =
      some (0x00#8, 0x08#8, 0x4#32) ∧
    seen (fun t => (t.dev.key0, t.dev.key1, t.dev.statusWord)) (exec (.wrKey1 0x100#32) State.reset) =
      some (0x00#8, 0x00#8, 0x24#32) := by decide

theorem test_wrRounds :
    seen (fun t => (t.dev.rounds, t.dev.statusWord)) (exec (.wrRounds 0xFFFF#32) State.reset) = some (0xFFFF#16, 0x4#32) ∧
    seen (fun t => (t.dev.rounds, t.dev.statusWord)) (exec (.wrRounds 0x10000#32) State.reset) = some (100#16, 0x24#32) := by
  decide

/-- Writing a half clears SBV even where the word is the one that is there. -/
theorem test_wrSboxLo :
    seen (fun t => (busRead .sboxLo t.dev, busRead .sboxHi t.dev, t.dev.statusWord))
      (exec (.wrSboxLo 0x76543210#32) State.reset) = some (0x76543210#32, 0x0472AFE6#32, 0x0#32) := by decide

theorem test_wrSboxHi :
    seen (fun t => (busRead .sboxLo t.dev, busRead .sboxHi t.dev, t.dev.statusWord))
      (exec (.wrSboxHi 0x0472AFE6#32) State.reset) = some (0xBC91385D#32, 0x0472AFE6#32, 0x0#32) := by decide

/-- `WR STATUS, 2` on STATUS 0x6 with IE 1: STATUS 0x4 and `irq` 0 (95_test_vectors.md 2.5). -/
theorem test_wrStatus :
    seen (fun t => (t.dev.statusWord, t.dev.irq)) (exec (.wrStatus 0x2#32) (from0 fun d => { d with done := true, ie := true })) =
      some (0x4#32, false) ∧
    seen (fun t => (t.dev.statusWord, t.dev.irq)) (exec (.wrStatus 0xFFFFFFFD#32)
      (from0 fun d => { d with done := true, ie := true })) = some (0x6#32, true) := by decide

theorem test_wrCtrl :
    seen (·.dev.ie) (exec (.wrCtrl 0x1#32) busyEnc) = some true ∧
    seen (·.dev.ie) (exec (.wrCtrl 0xFFFFFFFE#32) (from0 fun d => { d with ie := true })) = some false := by decide

theorem test_writes_without_effect :
    [Instr.wrId 0#32, .wrDout 0xFF#32, .wrRsvd24 0xFFFFFFFF#32, .wrIsboxLo 0#32, .wrIsboxHi 0#32, .wrRsvd38 1#32,
      .wrRsvd3C 1#32].map (fun i => seen observe (exec i State.reset)) = List.replicate 7 (some (observe State.reset)) := by
  decide

/-! ## The engine, reset and the lines of a program -/

/-- The first forward step of ENC on 0x00 with the keys 0x46, 0x08 gives 0x1C, the second uses KEY1 and gives 0x51. -/
theorem test_engine_forward :
    (engineStep (engineForward { busyEnc.dev with key0 := 0x46#8, key1 := 0x08#8 })).engX = 0x51#8 ∧
    (engineForward { busyEnc.dev with key0 := 0x46#8, key1 := 0x08#8 }).engX = 0x1C#8 := by decide

/-- DEC over 2 rounds uses KEY1 first: 0x51 goes to 0x1C, then to 0x00. -/
theorem test_engine_inverse :
    (engineStep { busyDec.dev with engX := 0x51#8, engN := 2#16, key0 := 0x46#8, key1 := 0x08#8 }).engX = 0x1C#8 ∧
    (engineStep (engineStep { busyDec.dev with engX := 0x51#8, engN := 2#16, key0 := 0x46#8, key1 := 0x08#8 })).engX =
      0x00#8 := by decide

/-- A `WAIT` ends with its read of STATUS: 0x46 after a write refused during the command (program P4, run A), and while BUSY = 1
the line stays and nothing is recorded. -/
theorem test_wait :
    seen (fun t => (t.reads, t.host)) (step ({ (from0 fun d => { d with done := true, err := .busy }) with
      host := [.wait, cmdLine .nop], reads := [0x45#32] } : State)) = some ([0x45#32, 0x46#32], [cmdLine .nop]) ∧
    seen (fun t => (t.reads, t.host)) (step ({ busyEnc with host := [.wait], sched := [.host] } : State)) =
      some ([], [.wait]) := by decide

/-- Completion after a refused write: STATUS 0x46 (R205, program P4). -/
theorem test_engine_completion :
    seen doutStatus (step (from0 fun d => { d with
      engOp := .enc, engX := 0x73#8, engI := 100#16, engN := 100#16, busy := true, err := .busy })) =
      some (0x73#8, 0x46#32) := by decide

/-- The reset tables are a bijection and its inverse, and pack into the words of R21. -/
theorem test_reset_tables :
    bijective Config.resetSbox = true ∧ invert Config.resetSbox = Config.resetIsbox ∧
    pack Config.resetSbox 0 = 0xBC91385D#32 ∧ pack Config.resetIsbox 8 = 0xA9067B52#32 := by decide

/-- Reset in the middle of an ENC: the engine is stopped and STATUS reads 0x4. -/
theorem test_reset_stops_the_engine :
    seen (fun t => (t.dev.engOp, t.dev.statusWord, t.rstN)) (step { busyEnc with sched := [.rst false] }) =
      some (EngOp.idle, 0x4#32, false) := by decide

/-- `LOADSB` of the identity is the two words and the SBCHK of R100. -/
theorem test_loadSb_lines :
    loadSbLines #v[0#4, 1#4, 2#4, 3#4, 4#4, 5#4, 6#4, 7#4, 8#4, 9#4, 10#4, 11#4, 12#4, 13#4, 14#4, 15#4] =
      [.word (.transaction 0b11010#5 0x76543210#32), .word (.transaction 0b11011#5 0xFEDCBA98#32),
        .word (.command 0x00000009#32)] := by decide

/-! ## Witnesses: for every statement with hypotheses, states and operands that meet them, clause by clause -/

/-- SBC8 with the keys of program P1. -/
def keyed : State := withKeys 0x00#8 0x46#8 0x08#8

/-- A table that is not a bijection. -/
def allZero : Lut := Vector.replicate 16 0#4

theorem keyed_inv : Machine.Inv keyed where
  dev := ⟨by decide, by decide, by decide, by decide, fun _ => by constructor <;> decide, by decide⟩
  reset_held := by decide

/-- The engine of `keyed` encrypting in `n` rounds, at round 0. -/
def encrypting (n : RoundCount) : State :=
  { keyed with dev := { keyed.dev with engOp := .enc, engX := 0x00#8, engI := 0#16, engN := n, busy := true } }

theorem encrypting_computes (n : RoundCount) :
    (encrypting n).dev.Computing ((encrypting n).dev.encrypt 0x00#8 n.toNat) n :=
  Or.inl ⟨0x00#8, ⟨rfl, rfl, rfl, by simp [encrypting, BitVec.le_def], rfl⟩, rfl⟩

/-- The engine of `keyed` decrypting in `n` rounds, at round 0. -/
def decrypting (n : RoundCount) : State :=
  { keyed with dev := { keyed.dev with engOp := .dec, engX := 0x51#8, engI := 0#16, engN := n, busy := true } }

theorem decrypting_computes (n : RoundCount) :
    (decrypting n).dev.Computing ((decrypting n).dev.decrypt 0x51#8 n.toNat) n :=
  Or.inr ⟨0x51#8, ⟨rfl, rfl, rfl, by simp [decrypting, BitVec.le_def], by simp [decrypting]⟩, rfl⟩

theorem witness_DecodeInvertsEncode :
    (Instr.dec .dout).wellFormed = true ∧ (Instr.irnd .key1 .dout).wellFormed = true ∧
    (Instr.wrRsvd3C 0xFFFFFFFF#32).wellFormed = true := by decide

theorem witness_EncodeInvertsDecode :
    decode (.command 0x35#32) = .ok (.irnd .key1 .dout) ∧ (PortWord.command 0x35#32).signals.1.getLsbD 4 = true ∧
    decode (.transaction 0b01111#5 0xFFFFFFFF#32) = .ok .rdRsvd3C ∧
    (PortWord.transaction 0b01111#5 0xFFFFFFFF#32).signals.1.getLsbD 4 = false := by decide

/-- A word of the list, and one for each of the ten patterns. -/
theorem witness_LegalWordsAreTheTwentyFour :
    decodeCommand 0x35#32 = .ok (.irnd .key1 .dout) ∧
    [0x00#32, 0x21#32, 0x22#32, 0x33#32, 0x34#32, 0x35#32, 0x26#32, 0x27#32, 0x28#32, 0x09#32].map
      (fun c => (decodeCommand c).toOption.isSome) = List.replicate 10 true := by decide

theorem witness_IllegalWordsAreRefusedByTheFourChecks :
    State.reset.dev.busy = false ∧ uncommitted.dev.busy = false ∧ legal 0x3F#32 = false ∧ legal 0x40#32 = false ∧
    legal 0x34#32 = true := by decide

theorem witness_WritingACommandWordIsTheCommand : decodeCommand 0x28#32 = .ok (.dec .dout) := by decide

/-- Both clauses: a decoded line, and a command word that no instruction has. -/
theorem witness_StepPerformsTheIssuedInstruction :
    ((State.reset.withPortWord (.command 0x01#32)).turn = .host ∧ (State.reset.withPortWord (.command 0x01#32)).rstN = true ∧
      (State.reset.withPortWord (.command 0x01#32)).host = [.word (.command 0x01#32)] ∧
      decode (.command 0x01#32) = .ok (.sub .din)) ∧
    ((State.reset.withPortWord (.command 0x0A#32)).turn = .host ∧ (State.reset.withPortWord (.command 0x0A#32)).rstN = true ∧
      (State.reset.withPortWord (.command 0x0A#32)).host = [.word (.command 0x0A#32)] ∧
      ∀ i, decode (.command 0x0A#32) ≠ .ok i) :=
  ⟨by decide, by decide, by decide, by decide, fun i h => by
    have : (decode (.command 0x0A#32)).toOption = some i := by rw [h]; rfl
    exact absurd this (by rw [show (decode (.command 0x0A#32)).toOption = none from by decide]; simp)⟩

theorem witness_WaitPollsUntilNotBusy :
    (({ keyed with host := [.wait], sched := [.host] } : State).turn = .host ∧ keyed.rstN = true ∧ keyed.dev.busy = false) ∧
    (({ busyEnc with host := [.wait], sched := [.host] } : State).turn = .host ∧ busyEnc.rstN = true ∧
      busyEnc.dev.busy = true) ∧
    (({ State.reset with rstN := false, host := [.wait] } : State).turn = .host) := by decide

theorem witness_FinishedMachineExecutesNothing : Finished keyed ∧ keyed.sched = [] := ⟨⟨rfl, rfl, rfl⟩, rfl⟩

/-- A state with each code of ERR. -/
theorem witness_StatusReadsItsFields :
    [ErrCode.none, .invalidSbox, .domain, .illegalCmd, .busy].map (fun e => (from0 (Device.raise e)).dev.err) =
      [.none, .invalidSbox, .domain, .illegalCmd, .busy] := by decide

theorem witness_BlockRegisterWrites :
    busyEnc.dev.busy = true ∧ keyed.dev.busy = false ∧ (0x100#32).extractLsb' 8 24 ≠ 0#24 ∧
    (0x80000000#32).extractLsb' 8 24 ≠ 0#24 ∧ (0xFF#32).extractLsb' 8 24 = 0#24 ∧ (0x0#32).extractLsb' 8 24 = 0#24 := by
  decide

theorem witness_RoundsWrite :
    busyEnc.dev.busy = true ∧ keyed.dev.busy = false ∧ (0x10000#32).extractLsb' 16 16 ≠ 0#16 ∧
    (0xFFFF#32).extractLsb' 16 16 = 0#16 := by decide

theorem witness_StatusWriteClearsDoneOnly : (0x2#32).getLsbD 1 = true ∧ (0xFFFFFFFD#32).getLsbD 1 = false := by decide

theorem witness_SboxHalfWritesClearSbv : busyEnc.dev.busy = true ∧ keyed.dev.busy = false := by decide

theorem witness_WritesWhileBusy : busyEnc.dev.busy = true ∧ busyDec.dev.busy = true := by decide

theorem witness_ErrorPriority :
    busyEnc.dev.busy = true ∧ uncommitted.dev.busy = false ∧ legal 0x0A#32 = false ∧
    decodeCommand 0x21#32 = .ok (.sub .dout) ∧ (Cmd.sub .dout).readsLut = true ∧ uncommitted.dev.sbv = false ∧
    (0x1FF#32).extractLsb' 8 24 ≠ 0#24 ∧ (0x10000#32).extractLsb' 16 16 ≠ 0#16 := by decide

theorem witness_RegisterWriteErrorsChangeErrOnly :
    (Instr.wrDin 0x1FF#32).presentsCommand = false ∧
    ∃ t, exec (.wrDin 0x1FF#32) State.reset = .next t ∧ t.dev.err ≠ State.reset.dev.err :=
  ⟨rfl, _, rfl, by decide⟩

/-- The four clauses of `ObeysLifecycle`: a running engine; an idle one without and with a committed table; and for each
operation code a word that is not legal. -/
theorem witness_ObeysLifecycle :
    busyEnc.dev.busy = true ∧ (uncommitted.dev.busy = false ∧ uncommitted.dev.sbv = false) ∧
    (keyed.dev.busy = false ∧ keyed.dev.sbv = true) ∧
    [0x10#32, 0x11#32, 0x12#32, 0x43#32, 0x44#32, 0x45#32, 0x16#32, 0x17#32, 0x18#32, 0x29#32].map
      (fun c => (c.toNat % 16, legal c)) =
      [(0, false), (1, false), (2, false), (3, false), (4, false), (5, false), (6, false), (7, false), (8, false),
        (9, false)] := by decide

theorem witness_NopClearsErrAndCompletes :
    (from0 fun d => { d with err := .domain }).dev.statusWord = 0x00000024#32 := by decide

/-- Both sources, with DIN and DOUT apart, and KXOR's clauses without a committed table. -/
theorem witness_SourceIsReadBeforeDoutIsWritten :
    let s : State := from0 fun d => { d with din := 0x46#8, dout := 0x0F#8 }
    s.dev.busy = false ∧ s.dev.sbv = true ∧ uncommitted.dev.busy = false ∧
    (Src.din = .din ∧ 0x46#8 = s.dev.din ∨ Src.din = .dout ∧ 0x46#8 = s.dev.dout) ∧
    (Src.dout = .din ∧ 0x0F#8 = s.dev.din ∨ Src.dout = .dout ∧ 0x0F#8 = s.dev.dout) := by decide

theorem witness_SbchkCommitsABijection : keyed.dev.Inv ∧ keyed.dev.busy = false ∧ keyed.dev.sbv = true :=
  ⟨keyed_inv.dev, rfl, rfl⟩

theorem witness_TableCheckRefusesUncommittedTables :
    ((Cmd.dec .dout).readsLut = true ∧ uncommitted.dev.busy = false ∧ uncommitted.dev.sbv = false) ∧
    (Cmd.sbchk.readsLut = false ∧ bijective uncommitted.dev.sbox = true) ∧
    ([Cmd.nop, .kxor .key1 .dout].map Cmd.readsLut = [false, false] ∧ Cmd.nop ≠ .sbchk ∧ Cmd.kxor .key1 .dout ≠ .sbchk ∧
      (from0 fun d => { d with sbox := allZero, sbv := false }).dev.busy = false ∧ bijective allZero = false) := by decide

theorem witness_AcceptedCommandsCompleteOrStartTheEngine : keyed.dev.busy = false ∧ uncommitted.dev.busy = false := by decide

/-- A command other than SBCHK that changes DOUT. -/
theorem witness_StateCommandsNeverWrite :
    (Instr.sub .din).presentsCommand = true ∧ (Instr.sub .din).command? ≠ some .sbchk ∧
    ∃ t, exec (.sub .din) State.reset = .next t ∧ t.dev.dout ≠ State.reset.dev.dout :=
  ⟨rfl, by decide, _, rfl, by decide⟩

/-- Two Blocks with one high nibble, and two with one low nibble. -/
theorem witness_SubstitutionActsOnEachNibble :
    (0xF0#8).extractLsb' 4 4 = (0xFF#8).extractLsb' 4 4 ∧ (0x0F#8).extractLsb' 0 4 = (0xFF#8).extractLsb' 0 4 := by decide

theorem witness_InvertGivesTheUniqueIndex : bijective Config.resetIsbox = true ∧ bijective allZero = false := by decide

theorem witness_SubstitutionRoundTrips : keyed.dev.Inv ∧ keyed.dev.sbv = true := ⟨keyed_inv.dev, rfl⟩

theorem witness_RoundAndInverseRoundUndoEachOther : keyed.dev.Inv ∧ keyed.dev.sbv = true := ⟨keyed_inv.dev, rfl⟩

theorem witness_CipherLoops : 0 % 2 = 0 ∧ 1 % 2 = 1 ∧ 65535 % 2 = 1 := by decide

theorem witness_EncryptIsAPermutationWithInverseDecrypt : keyed.dev.Inv ∧ keyed.dev.sbv = true := ⟨keyed_inv.dev, rfl⟩

theorem witness_PeriodTwoStructure :
    0 % 2 = 0 ∧ keyed.dev.encrypt 0x00#8 2 = 0x51#8 ∧ keyed.dev.sbox = Config.resetSbox ∧ keyed.dev.key0 = 0x46#8 ∧
    keyed.dev.key1 = 0x08#8 := by decide

theorem witness_EqualKeysGiveTheLengthOneSchedule :
    (withKeys 0x12#8 0x34#8 0x34#8).dev.key0 = 0x34#8 ∧ (withKeys 0x12#8 0x34#8 0x34#8).dev.key1 = 0x34#8 := by decide

theorem witness_ChainOfRoundsComputesEncrypt : keyed.dev.busy = false ∧ keyed.dev.sbv = true ∧ 1 ≤ 1 := by decide

/-- Both directions, at round 0 and at the last round. -/
theorem witness_EngineStepsPerformOneRound :
    (busyEnc.turn = .engine ∧ busyEnc.rstN = true ∧ busyEnc.dev.engI < busyEnc.dev.engN ∧ busyEnc.dev.engOp = .enc) ∧
    (busyDec.turn = .engine ∧ busyDec.rstN = true ∧ busyDec.dev.engI < busyDec.dev.engN ∧ busyDec.dev.engOp = .dec) ∧
    65534#16 < 65535#16 := by decide

theorem witness_EngineCompletionDeliversTheBlock :
    (encrypting 0#16).turn = .engine ∧ (encrypting 0#16).rstN = true ∧ (encrypting 0#16).dev.engOp ≠ .idle ∧
    (encrypting 0#16).dev.engI = (encrypting 0#16).dev.engN := by decide

theorem witness_HostCannotDisturbARunningEngine :
    busyEnc.dev.busy = true ∧ ∃ t, exec (.wrKey0 0x00#32) busyEnc = .next t := ⟨rfl, _, rfl⟩

/-- A forward step that is not the last, and the completion. -/
theorem witness_EngineDeliversItsResultUnderEveryInterleaving :
    ((encrypting 2#16).rstN = true ∧
      (encrypting 2#16).dev.Computing ((encrypting 2#16).dev.encrypt 0x00#8 (2#16).toNat) 2#16 ∧
      ∃ t, step (encrypting 2#16) = .next t ∧ t.rstN = true) ∧
    ((decrypting 0#16).rstN = true ∧
      (decrypting 0#16).dev.Computing ((decrypting 0#16).dev.decrypt 0x51#8 (0#16).toNat) 0#16 ∧
      ∃ t, step (decrypting 0#16) = .next t ∧ t.rstN = true) :=
  ⟨⟨rfl, encrypting_computes 2#16, _, rfl, rfl⟩, ⟨rfl, decrypting_computes 0#16, _, rfl, rfl⟩⟩

theorem witness_AcceptedEngineCommandComputesItsCipher : keyed.dev.busy = false ∧ keyed.dev.sbv = true := by decide

/-- ENC2 with host turns among its steps: two engine steps are not the completion, the third is. -/
theorem witness_EngineCompletesAfterExactlyCountPlusOneSteps :
    (∀ turns rest : List Turn, ({ encrypting 2#16 with sched := turns ++ rest } : State).dev.Computing
      ((encrypting 2#16).dev.encrypt 0x00#8 (2#16).toNat) 2#16) ∧ (encrypting 2#16).rstN = true ∧
    (∀ level, Turn.rst level ∉ [Turn.host, .engine, .engine]) ∧
    [Turn.host, .engine, .engine].count .engine ≤ (2#16).toNat - (encrypting 2#16).dev.engI.toNat ∧
    (∀ level, Turn.rst level ∉ [Turn.engine, .host, .engine, .host, .engine]) ∧
    [Turn.engine, .host, .engine, .host, .engine].count .engine = (2#16).toNat - (encrypting 2#16).dev.engI.toNat + 1 ∧
    [Turn.engine, .host, .engine, .host, .engine].getLast? = some .engine :=
  ⟨fun _ _ => encrypting_computes 2#16, rfl, by decide, by decide, by decide, by decide, by decide⟩

theorem witness_EncryptThenDecryptProgramRestoresTheSource :
    let s : State := { keyed with host := [cmdLine (.enc .din), .wait, cmdLine (.dec .dout), .wait] }
    Machine.Inv s ∧ s.rstN = true ∧ s.dev.busy = false ∧ s.dev.sbv = true ∧ s.sched = [] ∧
    s.host = [cmdLine (.enc .din), .wait, cmdLine (.dec .dout), .wait] :=
  ⟨⟨keyed_inv.dev, by decide⟩, rfl, rfl, rfl, rfl, rfl⟩

/-- A bijection and a table that is none. -/
theorem witness_LoadSbCommitsABijection :
    (∀ T : Lut, let s : State := { keyed with host := loadSbLines T }
      Machine.Inv s ∧ s.rstN = true ∧ s.dev.busy = false ∧ s.sched = [] ∧ s.host = loadSbLines T) ∧
    bijective Config.resetIsbox = true ∧ bijective allZero = false :=
  ⟨fun _ => ⟨⟨keyed_inv.dev, fun h => by cases h⟩, rfl, rfl, rfl, rfl⟩, by decide, by decide⟩

/-- Reset asserted, and reset released. -/
theorem witness_ResetGivesEveryRegisterItsResetValue :
    ({ busyEnc with sched := [.rst false] } : State).turn = .rst false ∧
    (({ State.reset with rstN := false, sched := [.rst true] } : State).turn = .rst true ∧
      ({ State.reset with rstN := false, sched := [.rst true] } : State).rstN = false) := by decide

theorem witness_NothingMovesWhileResetIsAsserted :
    let s : State := { State.reset with rstN := false, host := [cmdLine (.enc .din)], sched := [.host] }
    s.rstN = false ∧ (∀ level, s.turn ≠ .rst level) ∧ ∃ t, step s = .next t :=
  ⟨rfl, by decide, _, rfl⟩

theorem witness_EveryStepKeepsTheInvariant : Machine.Inv keyed ∧ ∃ t, step keyed = .next t := ⟨keyed_inv, _, rfl⟩

/-- DONE rises by a command, and falls by a write to STATUS. -/
theorem witness_DoneChangesOnlyByItsCauses :
    (∃ t, step (keyed.withPortWord (.command 0x00#32)) = .next t ∧ t.dev.done ≠ keyed.dev.done ∧ t.dev.done = true) ∧
    ∃ t, step ((from0 Device.complete).withPortWord (.transaction 0b10001#5 0x2#32)) = .next t ∧
      t.dev.done ≠ (from0 Device.complete).dev.done ∧ t.dev.done = false :=
  ⟨⟨_, rfl, by decide, rfl⟩, ⟨_, rfl, by decide, rfl⟩⟩

/-- `irq` rises as IE is set with DONE pending (95_test_vectors.md P6). -/
theorem witness_IrqRisesOnlyWithDoneOrEnable :
    (from0 Device.complete).dev.irq = false ∧
    ∃ t, step ((from0 Device.complete).withPortWord (.transaction 0b10010#5 0x1#32)) = .next t ∧ t.dev.irq = true :=
  ⟨rfl, _, rfl, rfl⟩

/-- An error cleared by the next command; and an engine step. -/
theorem witness_ErrIsClearedOnlyByAcceptanceOrReset :
    ((from0 (Device.raise .domain)).dev.err ≠ .none ∧
      ∃ t, step ((from0 (Device.raise .domain)).withPortWord (.command 0x00#32)) = .next t ∧ t.dev.err = .none) ∧
    (busyEnc.turn = .engine ∧ ∃ t, step busyEnc = .next t) :=
  ⟨⟨by decide, _, rfl, rfl⟩, by decide, _, rfl⟩

theorem witness_SbvRisesOnlyByACheckedBijection :
    uncommitted.dev.sbv = false ∧
    ∃ t, step (uncommitted.withPortWord (.command 0x09#32)) = .next t ∧ t.dev.sbv = true :=
  ⟨rfl, _, rfl, rfl⟩

/-- DOUT changed by SUB. -/
theorem witness_DoutChangesOnlyByResults :
    ∃ t, step ((withDin 0x46#8).withPortWord (.command 0x01#32)) = .next t ∧ t.dev.dout ≠ (withDin 0x46#8).dev.dout :=
  ⟨_, rfl, by decide⟩

end Sys2Proof.Tests
end

/-! ## What a transaction and a step can do to SBC8

Every rule of 10_state.md about the cause of a change is a question to the same two case lists: `ExecEffect` for one host
transaction and `StepEffect` for one step of the machine. -/

namespace Sys2Proof.Machine

/-- What a command does once it is accepted and past the table check, the `case op of` of R110. -/
def commandOperation : Cmd → Device → Device
  | .nop, d => d.complete
  | .sub src, d => d.deliver (sub (d.source src) d.sbox)
  | .subi src, d => d.deliver (sub (d.source src) d.isbox)
  | .kxor k src, d => d.deliver (d.source src ^^^ d.key k)
  | .rnd k src, d => d.deliver (d.round (d.source src) (d.key k))
  | .irnd k src, d => d.deliver (d.iround (d.source src) (d.key k))
  | .enc src, d => d.startEngine .enc (d.source src) d.rounds
  | .enc2 src, d => d.startEngine .enc (d.source src) 2#16
  | .dec src, d => d.startEngine .dec (d.source src) d.rounds
  | .sbchk, d => checkSbox d

/-- Each of the ten commands is `runCommand` with its own table check and operation. -/
theorem execCommand_eq_runCommand (c : Cmd) (s : State) :
    execCommand c s = .next (s.onDev (runCommand c.readsLut (commandOperation c))) := by
  cases c <;> rfl

/-- Both encoding levels of a command run it (R90, R99). -/
theorem exec_of_command? {i : Instr} {c : Cmd} (h : i.command? = some c) (s : State) :
    exec i s = .next (s.onDev (runCommand c.readsLut (commandOperation c))) := by
  rw [← execCommand_eq_runCommand]
  cases i
  case wrCmd v =>
    cases hv : decodeCommand v with
    | error r => simp [Instr.command?, hv, Except.toOption] at h
    | ok c' =>
      obtain rfl : c' = c := by simpa [Instr.command?, hv, Except.toOption] using h
      simp [exec, execWrCmd, hv]
  case nop | sub | subi | kxor | rnd | irnd | enc | enc2 | dec | sbchk => cases h; rfl
  all_goals cases h

theorem presentsCommand_of_command? {i : Instr} {c : Cmd} (h : i.command? = some c) : i.presentsCommand = true := by
  cases i
  case nop | sub | subi | kxor | rnd | irnd | enc | enc2 | dec | sbchk | wrCmd => rfl
  all_goals cases h

/-- A command presented by a word that is not legal (R112). -/
theorem exec_of_illegal_command {i : Instr} (hp : i.presentsCommand = true) (hc : i.command? = none) (s : State) :
    exec i s = .next (s.onDev illegalCommand) := by
  cases i
  case wrCmd v =>
    cases hv : decodeCommand v with
    | error r => simp [exec, execWrCmd, hv]
    | ok c => simp [Instr.command?, hv, Except.toOption] at hc
  case nop | sub | subi | kxor | rnd | irnd | enc | enc2 | dec | sbchk => cases hc
  all_goals cases hp

/-- What storing into a configuration register (R66, R69, R70, R72, R74, R75) keeps of the device; SBV can only fall. -/
structure ConfigStored (d e : Device) : Prop where
  isbox : e.isbox = d.isbox
  dout : e.dout = d.dout
  ie : e.ie = d.ie
  busy : e.busy = d.busy
  done : e.done = d.done
  err : e.err = d.err
  engOp : e.engOp = d.engOp
  engX : e.engX = d.engX
  engI : e.engI = d.engI
  engN : e.engN = d.engN
  sbv : e.sbv = true → d.sbv = true ∧ e.sbox = d.sbox

/-- All that the transaction `i` can make of SBC8: `d` before it, `e` after it. -/
inductive ExecEffect (i : Instr) (d e : Device) : Prop
  /-- a read, or a write to a register that ignores it -/
  | unchanged (he : e = d)
  /-- a command or a write refused before acceptance: its code goes to ERR -/
  | raised (code : ErrCode) (hcode : code ≠ .none) (he : e = d.raise code)
  /-- an accepted command refused by the legality or the table check -/
  | refused (code : ErrCode) (hcode : code ≠ .none) (hp : i.presentsCommand = true) (hb : d.busy = false)
      (he : e = d.accept.refuse code)
  /-- an accepted command that passes its checks -/
  | performed (c : Cmd) (hc : i.command? = some c) (hb : d.busy = false) (hs : c.readsLut = true → d.sbv = true)
      (he : e = commandOperation c d.accept)
  | statusWritten (v : Word) (hi : i = .wrStatus v) (he : e = d.writeStatus v)
  | ctrlWritten (v : Word) (hi : i = .wrCtrl v) (he : e = { d with ie := v.getLsbD 0 })
  | configured (hb : d.busy = false) (he : ConfigStored d e)

/-- R110 for a legal word. -/
theorem runCommand_effect {i : Instr} {c : Cmd} (hc : i.command? = some c) (d : Device) :
    ExecEffect i d (runCommand c.readsLut (commandOperation c) d) := by
  rcases runCommand_cases c.readsLut (commandOperation c) d with ⟨-, he⟩ | ⟨hb, -, -, he⟩ | ⟨hb, hs, he⟩
  · exact .raised .busy (by decide) he
  · exact .refused .invalidSbox (by decide) (presentsCommand_of_command? hc) hb he
  · exact .performed c hc hb hs he

/-- R110 for a word that is not legal. -/
theorem illegalCommand_effect {i : Instr} (hp : i.presentsCommand = true) (d : Device) :
    ExecEffect i d (illegalCommand d) := by
  cases hb : d.busy
  · exact .refused .illegalCmd (by decide) hp hb (illegalCommand_idle hb)
  · exact .raised .busy (by decide) (illegalCommand_busy hb)

/-- R208 for a write to a configuration register. -/
theorem guardedWrite_effect {i : Instr} {fits : Bool} {store : Device → Device} (d : Device)
    (hstore : ConfigStored d (store d)) : ExecEffect i d (guardedWrite fits store d) := by
  rcases guardedWrite_cases fits store d with ⟨-, he⟩ | ⟨-, -, he⟩ | ⟨hb, -, he⟩
  · exact .raised .busy (by decide) he
  · exact .raised .domain (by decide) he
  · exact .configured hb (he ▸ hstore)

theorem loadSbox_configStored (b : Nat) (v : Word) (d : Device) : ConfigStored d (d.loadSbox b v) := by
  constructor <;> simp

/-- A store that leaves SBOX and SBV too: DIN, KEY0, KEY1 and ROUNDS. -/
theorem registerStore_configStored (d : Device) (din key0 key1 : Block) (rounds : RoundCount) :
    ConfigStored d { d with din := din, key0 := key0, key1 := key1, rounds := rounds } := by
  constructor <;> simp

/-- A transaction that presents no command reads a register or writes one (R59, R60). -/
theorem registerAccess_effect {i : Instr} {s t : State} (hp : i.presentsCommand = false) (h : exec i s = .next t) :
    ExecEffect i s.dev t.dev := by
  cases i
  case nop | sub | subi | kxor | rnd | irnd | enc | enc2 | dec | sbchk | wrCmd => cases hp
  case wrStatus v => cases h; exact .statusWritten v rfl rfl
  case wrCtrl v => cases h; exact .ctrlWritten v rfl rfl
  case wrDin | wrKey0 | wrKey1 | wrRounds =>
    cases h
    rw [onDev_dev]
    exact guardedWrite_effect s.dev (registerStore_configStored s.dev _ _ _ _)
  case wrSboxLo | wrSboxHi => cases h; exact guardedWrite_effect s.dev (loadSbox_configStored _ _ s.dev)
  all_goals cases h; exact .unchanged rfl

/-- What a host transaction can do to SBC8. -/
theorem exec_effect {i : Instr} {s t : State} (h : exec i s = .next t) : ExecEffect i s.dev t.dev := by
  cases hc : i.command? with
  | some c =>
    rw [exec_of_command? hc] at h
    cases h
    exact runCommand_effect hc s.dev
  | none =>
    cases hp : i.presentsCommand
    · exact registerAccess_effect hp h
    · rw [exec_of_illegal_command hp hc] at h
      cases h
      exact illegalCommand_effect hp s.dev

/-- All that a step from `s` can make of SBC8, `e` being the device after it. -/
inductive StepEffect (s : State) (e : Device) : Prop
  /-- nothing is performed: no line is left, reset is asserted, or the step is a poll of `WAIT` -/
  | unchanged (he : e = s.dev)
  | transaction (i : Instr) (hi : s.issues = some i) (hx : ExecEffect i s.dev e)
  | engine (ht : s.turn = .engine) (hr : s.rstN = true) (he : e = engineStep s.dev)
  | reset (level : Bool) (ht : s.turn = .rst level) (he : e = s.dev ∨ e = Device.reset)

theorem issues_eq_presented {s : State} {p : PortWord} {rest : List HostLine} (ht : s.turn = .host)
    (hr : s.rstN = true) (hh : s.host = .word p :: rest) : s.issues = some p.presented := by
  simp [State.issues, ht, hr, hh]

theorem hostTurn_effect {s t : State} (ht : s.turn = .host) (h : hostTurn s.takeTurn = .next t) :
    StepEffect s t.dev := by
  rcases hostTurn_cases s.takeTurn with
    ⟨-, hx⟩ | ⟨p, rest, hh, hr, hx⟩ | ⟨_, _, -, -, hx⟩ | ⟨_, -, -, -, hx⟩ | ⟨_, -, -, hx⟩
  case inr.inl =>
    have heffect := exec_effect (hx.symm.trans h)
    exact .transaction p.presented (issues_eq_presented ht hr hh) heffect
  all_goals
    cases hx.symm.trans h
    exact .unchanged rfl

theorem engineTurn_effect {s : State} (ht : s.turn = .engine) : StepEffect s (engineTurn s.takeTurn).dev := by
  cases hr : s.rstN
  · exact .unchanged (by simp [engineTurn, hr])
  · exact .engine ht hr (by simp [engineTurn, hr])

theorem rstTurn_effect {s : State} {level : Bool} (ht : s.turn = .rst level) :
    StepEffect s (rstTurn level s.takeTurn).dev := by
  refine .reset level ht ?_
  rw [rstTurn_dev]
  split
  · exact .inl rfl
  · exact .inr rfl

/-- What a step can do to SBC8. -/
theorem step_effect {s t : State} (h : step s = .next t) : StepEffect s t.dev := by
  rcases step_cases s with ⟨ht, hx⟩ | ⟨ht, hx⟩ | ⟨level, ht, hx⟩
  · exact hostTurn_effect ht (hx.symm.trans h)
  · cases hx.symm.trans h
    exact engineTurn_effect ht
  · cases hx.symm.trans h
    exact rstTurn_effect ht

/-! ## The fields of 10_state.md under a transaction and under an engine step -/

@[simp] theorem writeStatus_sbv (d : Device) (v : Word) : (d.writeStatus v).sbv = d.sbv := by simp [writeStatus_eq]
@[simp] theorem writeStatus_dout (d : Device) (v : Word) : (d.writeStatus v).dout = d.dout := by simp [writeStatus_eq]
@[simp] theorem writeStatus_ie (d : Device) (v : Word) : (d.writeStatus v).ie = d.ie := by simp [writeStatus_eq]

@[simp] theorem checkSbox_dout (d : Device) : (checkSbox d).dout = d.dout := by
  rcases checkSbox_cases d with ⟨-, h⟩ | ⟨-, h⟩ <;> simp [h]

@[simp] theorem checkSbox_ie (d : Device) : (checkSbox d).ie = d.ie := by
  rcases checkSbox_cases d with ⟨-, h⟩ | ⟨-, h⟩ <;> simp [h]

@[simp] theorem commandOperation_ie (c : Cmd) (d : Device) : (commandOperation c d).ie = d.ie := by
  cases c <;> simp [commandOperation]

/-- A command that delivers no block at once leaves DOUT (R114, R117). -/
theorem commandOperation_dout {c : Cmd} (h : c.deliversAtOnce = false) (d : Device) :
    (commandOperation c d).dout = d.dout := by
  cases c
  case nop | enc | enc2 | dec | sbchk => simp [commandOperation]
  all_goals cases h

/-- Of the ten commands only SBCHK can set SBV, and then ISBOX is the inverse of a bijective SBOX (R125). -/
theorem sbchk_of_commandOperation_sbv {c : Cmd} {d : Device} (hd : d.sbv = false)
    (h : (commandOperation c d).sbv = true) :
    c = .sbchk ∧ bijective d.sbox = true ∧ (commandOperation c d).isbox = invert d.sbox := by
  cases c
  case sbchk =>
    rcases checkSbox_cases d with ⟨hbij, he⟩ | ⟨-, he⟩
    · exact ⟨rfl, hbij, by simp [commandOperation, he]⟩
    · simp [commandOperation, he, hd] at h
  all_goals simp [commandOperation, hd] at h

/-- DONE under a transaction: a command is accepted, or a write to STATUS clears it (R32, R63, R111). -/
theorem ExecEffect.done_cause {i : Instr} {d e : Device} (hx : ExecEffect i d e) (hne : e.done ≠ d.done) :
    (i.presentsCommand = true ∧ d.busy = false) ∨ (e.done = false ∧ ∃ v, i = .wrStatus v ∧ v.getLsbD 1 = true) := by
  cases hx with
  | unchanged he | raised _ _ he | ctrlWritten _ _ he => simp [he] at hne
  | configured _ he => exact absurd he.done hne
  | refused _ _ hp hb _ => exact .inl ⟨hp, hb⟩
  | performed _ hc hb _ _ => exact .inl ⟨presentsCommand_of_command? hc, hb⟩
  | statusWritten v hi he =>
    rw [writeStatus_eq] at he
    cases hv : v.getLsbD 1 <;> rw [hv] at he
    · simp [he] at hne
    · exact .inr ⟨by simp [he], v, hi, hv⟩

/-- Only a write to CTRL changes IE (R30, R64). -/
theorem ExecEffect.ie_cause {i : Instr} {d e : Device} (hx : ExecEffect i d e) :
    e.ie = d.ie ∨ ∃ v, i = .wrCtrl v ∧ e = { d with ie := v.getLsbD 0 } := by
  cases hx with
  | unchanged he | raised _ _ he | refused _ _ _ _ he | performed _ _ _ _ he | statusWritten _ _ he => simp [he]
  | ctrlWritten v hi he => exact .inr ⟨v, hi, he⟩
  | configured _ he => exact .inl he.ie

/-- A transaction that raises SBV is SBCHK on a bijection (R24, R125). -/
theorem ExecEffect.sbv_cause {i : Instr} {d e : Device} (hx : ExecEffect i d e) (hd : d.sbv = false)
    (he : e.sbv = true) : i.command? = some .sbchk ∧ bijective d.sbox = true ∧ e.isbox = invert d.sbox := by
  cases hx with
  | unchanged h | raised _ _ h | refused _ _ _ _ h | statusWritten _ _ h | ctrlWritten _ _ h => simp [h, hd] at he
  | configured _ h => exact absurd (h.sbv he).1 (by simp [hd])
  | performed c hc _ _ h =>
    subst h
    obtain ⟨rfl, hbij, hinv⟩ := sbchk_of_commandOperation_sbv (d := d.accept) hd he
    exact ⟨hc, hbij, hinv⟩

/-- A transaction that changes DOUT is a command that delivers at once and passes its checks (R29, R117). -/
theorem ExecEffect.dout_cause {i : Instr} {d e : Device} (hx : ExecEffect i d e) (hne : e.dout ≠ d.dout) :
    ∃ c, i.command? = some c ∧ c.deliversAtOnce = true ∧ d.busy = false ∧ (c.readsLut = true → d.sbv = true) := by
  cases hx with
  | unchanged he | raised _ _ he | refused _ _ _ _ he | statusWritten _ _ he | ctrlWritten _ _ he => simp [he] at hne
  | configured _ he => exact absurd he.dout hne
  | performed c hc hb hs he =>
    refine ⟨c, hc, ?_, hb, hs⟩
    by_contra hnot
    exact hne (by rw [he, commandOperation_dout (by simpa using hnot), accept_dout])

@[simp] theorem engineStep_sbv (d : Device) : (engineStep d).sbv = d.sbv := by
  rcases engineStep_cases d with ⟨-, -, h⟩ | ⟨-, -, h⟩ | ⟨-, -, h⟩ | ⟨-, h⟩ <;> simp [h]

@[simp] theorem engineStep_ie (d : Device) : (engineStep d).ie = d.ie := by
  rcases engineStep_cases d with ⟨-, -, h⟩ | ⟨-, -, h⟩ | ⟨-, -, h⟩ | ⟨-, h⟩ <;> simp [h]

/-- Of the engine's steps only the completion touches DONE and DOUT (R165-R167). -/
theorem engineStep_completes_or_keeps (d : Device) :
    (d.engOp ≠ .idle ∧ d.engI = d.engN ∧ engineStep d = engineComplete d) ∨
    ((engineStep d).done = d.done ∧ (engineStep d).dout = d.dout) := by
  rcases engineStep_cases d with ⟨-, -, h⟩ | ⟨-, -, h⟩ | hcomplete | ⟨-, h⟩
  case inr.inr.inl => exact .inl hcomplete
  all_goals exact .inr (by simp [h])

/-! ## STATUS and irq as they are read -/

/-- The codes 5, 6 and 7 are never held (R201). -/
theorem ErrCode.code_le_four (e : ErrCode) : e.code ≤ 4#3 := by
  cases e <;> decide

theorem exec_rdStatus (s : State) : exec .rdStatus s = .next { s with reads := s.reads ++ [s.dev.statusWord] } := rfl

theorem irq_iff (d : Device) : d.irq = true ↔ d.ie = true ∧ d.done = true := by
  simp [Device.irq]

end Sys2Proof.Machine

/-! ## The obligations of 10_state.md -/

section
open Sys2Proof Sys2Proof.Machine

/-- Settles O12: a read of STATUS returns `statusWord`, whose fields `statusWord_fields` gives. -/
theorem statusReadsItsFields : Obligations.StatusReadsItsFields := by
  unfold Obligations.StatusReadsItsFields
  refine ⟨fun s => ⟨s.dev.statusWord, exec_rdStatus s, ?_⟩, rfl⟩
  obtain ⟨hbusy, hdone, hsbv, hzero, hcode, hhigh⟩ := statusWord_fields s.dev
  refine ⟨hbusy, hdone, hsbv, hzero, hhigh, ?_⟩
  rw [hcode]
  refine ⟨?_, ?_, ?_, ?_, ?_, s.dev.err.code_le_four⟩
  all_goals intro he; rw [he]; rfl

/-- Settles O55, by the cases of a step: a transaction's causes are `ExecEffect.done_cause`, the engine's is its completion. -/
theorem doneChangesOnlyByItsCauses : Obligations.DoneChangesOnlyByItsCauses := by
  unfold Obligations.DoneChangesOnlyByItsCauses
  intro s t h hne
  cases step_effect h with
  | unchanged he => exact absurd (congrArg Device.done he) hne
  | transaction i hi hx =>
    rcases hx.done_cause hne with ⟨hp, hb⟩ | ⟨hfall, v, rfl, hv⟩
    · exact ⟨fun _ => .inl ⟨i, hi, hp, hb⟩, fun _ => .inl ⟨i, hi, hp, hb⟩⟩
    · exact ⟨fun hrise => by simp [hfall] at hrise, fun _ => .inr (.inl ⟨v, hi, hv⟩)⟩
  | engine ht _ he =>
    rcases engineStep_completes_or_keeps s.dev with ⟨hop, hn, hc⟩ | ⟨hkeep, -⟩
    · exact ⟨fun _ => .inr ⟨ht, hop, hn⟩, fun hfall => by simp [he, hc] at hfall⟩
    · exact absurd (he ▸ hkeep) hne
  | reset level ht he =>
    refine ⟨fun hrise => ?_, fun _ => .inr (.inr ⟨level, ht⟩)⟩
    rcases he with he | he
    · exact absurd (congrArg Device.done he) hne
    · simp [he, Device.reset] at hrise

/-- Settles O56: where IE is kept, `irq` rises as DONE does; and only a write to CTRL changes IE. -/
theorem irqRisesOnlyWithDoneOrEnable : Obligations.IrqRisesOnlyWithDoneOrEnable := by
  unfold Obligations.IrqRisesOnlyWithDoneOrEnable
  refine fun s t => ⟨irq_iff s.dev, fun h hlow hhigh => ?_⟩
  obtain ⟨hie, hdone⟩ := (irq_iff t.dev).1 hhigh
  have hpending : t.dev.ie = s.dev.ie → t.dev.done ≠ s.dev.done := fun hkeep hsame => by
    simp [Device.irq, ← hkeep, ← hsame, hie, hdone] at hlow
  have hcauses (hkeep : t.dev.ie = s.dev.ie) := (doneChangesOnlyByItsCauses s t h (hpending hkeep)).1 hdone
  cases step_effect h with
  | unchanged he => exact .inr (hcauses (congrArg Device.ie he))
  | transaction i hi hx =>
    rcases hx.ie_cause with hkeep | ⟨v, rfl, he⟩
    · exact .inr (hcauses hkeep)
    · rw [he] at hie hdone
      exact .inl ⟨v, hi, hie, hdone⟩
  | engine _ _ he => exact .inr (hcauses (by simp [he]))
  | reset _ _ he =>
    rcases he with he | he
    · exact .inr (hcauses (congrArg Device.ie he))
    · simp [he, Device.reset] at hie

/-- Settles O58: no engine step sets SBV, and `ExecEffect.sbv_cause` names the one transaction that does. -/
theorem sbvRisesOnlyByACheckedBijection : Obligations.SbvRisesOnlyByACheckedBijection := by
  unfold Obligations.SbvRisesOnlyByACheckedBijection
  intro s t h hlow hhigh
  cases step_effect h with
  | unchanged he => simp [he, hlow] at hhigh
  | transaction i hi hx => exact .inl ⟨i, hi, hx.sbv_cause hlow hhigh⟩
  | engine _ _ he => simp [he, hlow] at hhigh
  | reset level ht _ => exact .inr ⟨level, ht⟩

/-- Settles O59: the transaction's cause is `ExecEffect.dout_cause`, and the completion delivers ENG_X. -/
theorem doutChangesOnlyByResults : Obligations.DoutChangesOnlyByResults := by
  unfold Obligations.DoutChangesOnlyByResults
  intro s t h hne
  cases step_effect h with
  | unchanged he => exact absurd (congrArg Device.dout he) hne
  | transaction i hi hx =>
    obtain ⟨c, hc, hdelivers, hb, hs⟩ := hx.dout_cause hne
    exact .inl ⟨i, c, hi, hc, hdelivers, hb, hs⟩
  | engine ht _ he =>
    rcases engineStep_completes_or_keeps s.dev with ⟨hop, hn, hc⟩ | ⟨-, hkeep⟩
    · exact .inr (.inl ⟨ht, hop, hn, by simp [he, hc]⟩)
    · exact absurd (he ▸ hkeep) hne
  | reset level ht _ => exact .inr (.inr ⟨level, ht⟩)

end

/-! ## The register space: what a read returns and what a write stores

The lemmas the rules of 20_memory.md share: table words by nibble (R55), the read of a register (R59), and a write to a
configuration register in its three cases (R66-R75, R208). -/

namespace Sys2Proof.Machine

theorem lookup_ofNat (T : Lut) {j : Nat} (h : j < 16) : lookup T (BitVec.ofNat 4 j) = T[j] := by
  simp [lookup, Nat.mod_eq_of_lt h]

/-- Nibble `i + 1` of a word that ends in a nibble is nibble `i` of the rest. -/
theorem extractLsb'_append_nibble {n : Nat} (x : BitVec n) (y : Nibble) (i : Nat) :
    (x ++ y).extractLsb' (4 * (i + 1)) 4 = x.extractLsb' (4 * i) 4 :=
  BitVec.extractLsb'_append_eq_of_le (by omega)

/-- `pack(T, b)` read back by nibble (R55). -/
theorem nibbleAt_pack (T : Lut) (b : Nat) {i : Nat} (h : i < 8) :
    nibbleAt (pack T b) i = lookup T (BitVec.ofNat 4 (b + i)) := by
  unfold nibbleAt pack
  interval_cases i <;> simp only [extractLsb'_append_nibble, Nat.mul_zero, Nat.add_zero,
    BitVec.extractLsb'_append_eq_right, BitVec.extractLsb'_eq_self]

theorem extractLsb'_pack (T : Lut) {b i : Nat} (h : i < 8) (hb : b + i < 16) :
    (pack T b).extractLsb' (4 * i) 4 = T[b + i] := by
  change nibbleAt (pack T b) i = T[b + i]
  rw [nibbleAt_pack T b h, lookup_ofNat T hb]

theorem getElem_unpackInto (T : Lut) (b : Nat) (v : Word) {j : Nat} (h : j < 16) :
    (unpackInto T b v)[j] = if b ≤ j ∧ j < b + 8 then nibbleAt v (j - b) else T[j] := by
  simp [unpackInto]

theorem getElem_unpackInto_loaded (T : Lut) {b : Nat} (v : Word) {i : Nat} (h : i < 8) (hb : b + i < 16) :
    (unpackInto T b v)[b + i] = nibbleAt v i := by
  rw [getElem_unpackInto, if_pos (by omega), Nat.add_sub_cancel_left]

theorem getElem_unpackInto_kept (T : Lut) {b : Nat} (v : Word) {j : Nat} (h : j < 16) (hout : j < b ∨ b + 8 ≤ j) :
    (unpackInto T b v)[j] = T[j] := by
  rw [getElem_unpackInto, if_neg (by omega)]

/-- Loading entries 0..7 (R74). -/
theorem unpackInto_lo (T : Lut) (v : Word) {i : Nat} (h : i < 8) :
    (unpackInto T 0 v)[i] = nibbleAt v i ∧ (unpackInto T 0 v)[8 + i] = T[8 + i] := by
  have hloaded := getElem_unpackInto_loaded T (b := 0) v h (by omega)
  exact ⟨by simpa only [Nat.zero_add] using hloaded, getElem_unpackInto_kept T v (by omega) (.inr (by omega))⟩

/-- Loading entries 8..15 (R75). -/
theorem unpackInto_hi (T : Lut) (v : Word) {i : Nat} (h : i < 8) :
    (unpackInto T 8 v)[8 + i] = nibbleAt v i ∧ (unpackInto T 8 v)[i] = T[i] :=
  ⟨getElem_unpackInto_loaded T v h (by omega), getElem_unpackInto_kept T v (by omega) (.inl h)⟩

/-- `zext_32` writes zeros above the value (R11). -/
theorem zext_eq_append {n k : Nat} (v : BitVec n) (h : k + n = 32) : zext v = (0#k ++ v).cast h := by
  obtain rfl : k = 32 - n := by omega
  exact BitVec.setWidth_eq_append (by omega)

/-- The read transaction of a register returns its row of `BusRead` (R59). -/
theorem exec_readInstr (r : Reg) (s : State) {w : Word} (hw : busRead r s.dev = w) :
    exec r.readInstr s = .next { s with reads := s.reads ++ [w] } := by
  subst hw
  cases r <;> rfl

theorem fitsBlock_iff (v : Word) : fitsBlock v = true ↔ v.extractLsb' 8 24 = 0#24 := by
  simp [fitsBlock]

theorem fitsRounds_iff (v : Word) : fitsRounds v = true ↔ v.extractLsb' 16 16 = 0#16 := by
  simp [fitsRounds]

/-- Every 16-bit value is a round count (R73). -/
theorem fitsRounds_zext (n : RoundCount) : fitsRounds (zext n) = true := by
  rw [fitsRounds_iff, zext_eq_append n (k := 16) rfl]
  exact BitVec.extractLsb'_append_eq_left

theorem roundsOf_zext (n : RoundCount) : roundsOf (zext n) = n := by
  rw [zext_eq_append n (k := 16) rfl]
  exact BitVec.extractLsb'_append_eq_right

/-- The answer of a transaction that takes SBC8 to `e`. -/
theorem next_onDev {f : Device → Device} {s : State} {e : Device} (h : f s.dev = e) :
    (.next (s.onDev f) : Host.Outcome State Fault Refusal) = .next { s with dev := e } := by
  rw [← h]
  rfl

section
variable {fits : Bool} {store : Device → Device}

theorem guardedWrite_domain {d : Device} (hb : d.busy = false) (hfits : ¬ fits = true) :
    guardedWrite fits store d = d.raise .domain := by
  simp [guardedWrite, hb, hfits]

theorem guardedWrite_stored {d : Device} (hb : d.busy = false) (hfits : fits = true) :
    guardedWrite fits store d = store d := by
  simp [guardedWrite, hb, hfits]

/-- A configuration write changes ERR only where it refuses the word, and then it changes nothing else (R68). -/
theorem guardedWrite_err_cause {d : Device} (hstore : (store d).err = d.err)
    (hne : (guardedWrite fits store d).err ≠ d.err) :
    ∃ code, (code = .domain ∨ code = .busy) ∧ guardedWrite fits store d = d.raise code := by
  rcases guardedWrite_cases fits store d with ⟨-, he⟩ | ⟨-, -, he⟩ | ⟨-, -, he⟩
  · exact ⟨.busy, .inr rfl, he⟩
  · exact ⟨.domain, .inl rfl, he⟩
  · exact absurd (he ▸ hstore) hne

end

/-- A transaction that presents no command changes ERR only as a refused write to a configuration register (R68, R211). -/
theorem registerAccess_err_cause {i : Instr} {s t : State} (hp : i.presentsCommand = false) (h : exec i s = .next t)
    (hne : t.dev.err ≠ s.dev.err) :
    ∃ code, (code = .domain ∨ code = .busy) ∧ t = s.onDev (Device.raise code) := by
  cases i
  case nop | sub | subi | kxor | rnd | irnd | enc | enc2 | dec | sbchk | wrCmd => cases hp
  case wrDin | wrKey0 | wrKey1 | wrRounds | wrSboxLo | wrSboxHi =>
    cases h
    obtain ⟨code, hcode, he⟩ := guardedWrite_err_cause rfl hne
    exact ⟨code, hcode, congrArg (fun d => { s with dev := d }) he⟩
  case wrStatus v => cases h; exact absurd (by simp [writeStatus_eq]) hne
  all_goals cases h; exact absurd rfl hne

/-- A command presented while the engine runs, at either level and with any word (R61, R110). -/
theorem exec_presentedCommand_busy {i : Instr} {s : State} (hp : i.presentsCommand = true) (hb : s.dev.busy = true) :
    exec i s = .next { s with dev := { s.dev with err := .busy } } := by
  cases hc : i.command? with
  | some c =>
    rw [exec_of_command? hc]
    exact next_onDev (runCommand_busy hb)
  | none =>
    rw [exec_of_illegal_command hp hc]
    exact next_onDev (illegalCommand_busy hb)

/-- In the host's turn the step is the presented transaction, with the line and the turn used up. -/
theorem step_eq_exec_presented {s : State} {p : PortWord} {rest : List HostLine} (ht : s.turn = .host)
    (hr : s.rstN = true) (hh : s.host = .word p :: rest) :
    step s = exec p.presented { s with host := rest, sched := s.sched.tail } := by
  simp [step, ht, hostTurn, hh, hr, State.takeTurn]

theorem presented_of_decode_ok {p : PortWord} {i : Instr} (h : decode p = .ok i) : p.presented = i := by
  simp [PortWord.presented, h]

/-- The port carries an undecodable command word as the write of that word to CMD (R99). -/
theorem presented_of_undecodable {c : Word} (h : ∀ i, decode (.command c) ≠ .ok i) :
    PortWord.presented (.command c) = .wrCmd c := by
  cases hd : decode (.command c) with
  | ok i => exact absurd hd (h i)
  | error r => simp [PortWord.presented, hd, PortWord.signals, decodeTransaction, Reg.ofAddr, Reg.writeInstr]

end Sys2Proof.Machine

/-! ## The obligations of 20_memory.md -/

section
open Sys2Proof Sys2Proof.Machine

/-- Settles O13: a packed word by `extractLsb'_pack`, an unpacked half by `unpackInto_lo` and `unpackInto_hi`. -/
theorem lutWordsArePackedByNibble : Obligations.LutWordsArePackedByNibble := by
  unfold Obligations.LutWordsArePackedByNibble
  refine ⟨fun T i h => ⟨?_, extractLsb'_pack T h (by omega)⟩, fun T v i h => ?_, fun s => ⟨rfl, rfl, rfl, rfl⟩⟩
  · simpa only [Nat.zero_add] using extractLsb'_pack T (b := 0) h (by omega)
  · obtain ⟨hlo, hloKept⟩ := unpackInto_lo T v h
    obtain ⟨hhi, hhiKept⟩ := unpackInto_hi T v h
    exact ⟨hlo, hhi, hloKept, hhiKept⟩

/-- Settles O7: the step is the presented transaction, which is the decoded one or the write to CMD. -/
theorem stepPerformsTheIssuedInstruction : Obligations.StepPerformsTheIssuedInstruction := by
  unfold Obligations.StepPerformsTheIssuedInstruction
  refine ⟨fun s p rest i ht hr hh hd => ?_, fun s c rest ht hr hh hd => ?_⟩
  · rw [step_eq_exec_presented ht hr hh, presented_of_decode_ok hd]
  · rw [step_eq_exec_presented ht hr hh, presented_of_undecodable hd]

/-- Settles O11, row by row: `BusRead` gives the row as it stands, or zero-extended from 1, 8 or 16 bits. -/
theorem busReadReturnsTheRegisterMap : Obligations.BusReadReturnsTheRegisterMap := by
  unfold Obligations.BusReadReturnsTheRegisterMap
  exact fun s => ⟨
    exec_readInstr .cmd s rfl,
    exec_readInstr .status s rfl,
    exec_readInstr .ctrl s (zext_eq_append _ rfl),
    exec_readInstr .id s rfl,
    exec_readInstr .din s (zext_eq_append _ rfl),
    exec_readInstr .dout s (zext_eq_append _ rfl),
    exec_readInstr .key0 s (zext_eq_append _ rfl),
    exec_readInstr .key1 s (zext_eq_append _ rfl),
    exec_readInstr .rounds s (zext_eq_append _ rfl),
    exec_readInstr .rsvd24 s rfl,
    exec_readInstr .sboxLo s rfl,
    exec_readInstr .sboxHi s rfl,
    exec_readInstr .isboxLo s rfl,
    exec_readInstr .isboxHi s rfl,
    exec_readInstr .rsvd38 s rfl,
    exec_readInstr .rsvd3C s rfl⟩

/-- Settles O14: the three cases of a configuration write, with the Block check. -/
theorem blockRegisterWrites : Obligations.BlockRegisterWrites := by
  unfold Obligations.BlockRegisterWrites
  refine fun s v => ⟨fun hb => ?busy, fun hb hwide => ?domain, fun hb hfits => ?stored⟩
  case busy => refine ⟨?_, ?_, ?_⟩ <;> exact next_onDev (guardedWrite_busy hb)
  case domain =>
    have hwide := mt (fitsBlock_iff v).1 hwide
    refine ⟨?_, ?_, ?_⟩ <;> exact next_onDev (guardedWrite_domain hb hwide)
  case stored =>
    have hfits := (fitsBlock_iff v).2 hfits
    refine ⟨?_, ?_, ?_⟩ <;> exact next_onDev (guardedWrite_stored hb hfits)

/-- Settles O15: the three cases of a configuration write; a zero-extended count always fits and is read back as given. -/
theorem roundsWrite : Obligations.RoundsWrite := by
  unfold Obligations.RoundsWrite
  refine fun s v => ⟨fun hb => next_onDev (guardedWrite_busy hb),
    fun hb hwide => next_onDev (guardedWrite_domain hb (mt (fitsRounds_iff v).1 hwide)), fun hb n => ?_⟩
  calc exec (.wrRounds (zext n)) s
      = .next { s with dev := { s.dev with rounds := roundsOf (zext n) } } :=
        next_onDev (guardedWrite_stored hb (fitsRounds_zext n))
    _ = .next { s with dev := { s.dev with rounds := n } } := by rw [roundsOf_zext]

/-- Settles O16, by bit 1 of the word. -/
theorem statusWriteClearsDoneOnly : Obligations.StatusWriteClearsDoneOnly := by
  unfold Obligations.StatusWriteClearsDoneOnly
  intro s v
  exact ⟨fun hv => next_onDev (if_pos hv), fun hv => next_onDev (if_neg (Bool.eq_false_iff.1 hv))⟩

/-- Settles O17: the write to CTRL is one field update. -/
theorem ctrlWriteSetsInterruptEnable : Obligations.CtrlWriteSetsInterruptEnable := by
  unfold Obligations.CtrlWriteSetsInterruptEnable
  exact fun _ _ => rfl

/-- Settles O18: each of the seven writes answers the state it was given. -/
theorem writesWithoutEffect : Obligations.WritesWithoutEffect := by
  unfold Obligations.WritesWithoutEffect
  exact fun _ _ => ⟨rfl, rfl, rfl, rfl, rfl, rfl, rfl⟩

/-- Settles O19: the new table is the word unpacked into the old one. -/
theorem sboxHalfWritesClearSbv : Obligations.SboxHalfWritesClearSbv := by
  unfold Obligations.SboxHalfWritesClearSbv
  refine fun s v => ⟨fun hb => ?busy, fun hb => ?lo, fun hb => ?hi⟩
  case busy => exact ⟨next_onDev (guardedWrite_busy hb), next_onDev (guardedWrite_busy hb)⟩
  case lo =>
    exact ⟨unpackInto s.dev.sbox 0 v, fun i h => unpackInto_lo s.dev.sbox v h, next_onDev (guardedWrite_stored hb rfl)⟩
  case hi =>
    exact ⟨unpackInto s.dev.sbox 8 v, fun i h => unpackInto_hi s.dev.sbox v h, next_onDev (guardedWrite_stored hb rfl)⟩

/-- Settles O20: the BUSY clauses of the single writes (O14, O15, O19) and of a presented command, and the writes that do
not look at BUSY (O16, O17, O18). -/
theorem writesWhileBusy : Obligations.WritesWhileBusy := by
  unfold Obligations.WritesWhileBusy
  intro s v hb
  obtain ⟨hdin, hkey0, hkey1⟩ := (blockRegisterWrites s v).1 hb
  have hrounds := (roundsWrite s v).1 hb
  obtain ⟨hlo, hhi⟩ := (sboxHalfWritesClearSbv s v).1 hb
  have hcmd := exec_presentedCommand_busy (i := .wrCmd v) rfl hb
  refine ⟨?refused, ?status, ctrlWriteSetsInterruptEnable s v, ?ignored⟩
  case refused =>
    simpa only [List.forall_mem_cons, List.not_mem_nil, false_implies, implies_true, and_true] using
      ⟨hcmd, hdin, hkey0, hkey1, hrounds, hlo, hhi⟩
  case status =>
    obtain ⟨hclears, hkeeps⟩ := statusWriteClearsDoneOnly s v
    cases hv : v.getLsbD 1
    · simpa using hkeeps hv
    · simpa using hclears hv
  case ignored =>
    simpa only [List.forall_mem_cons, List.not_mem_nil, false_implies, implies_true, and_true] using
      writesWithoutEffect s v

/-- Settles O22: the write was refused with DOMAIN or BUSY, and raising a code touches neither IE nor DONE. -/
theorem registerWriteErrorsChangeErrOnly : Obligations.RegisterWriteErrorsChangeErrOnly := by
  unfold Obligations.RegisterWriteErrorsChangeErrOnly
  intro i s t hp h hne
  obtain ⟨code, hcode, rfl⟩ := registerAccess_err_cause hp h hne
  exact ⟨rfl, hcode, rfl⟩

end

/-! ## The encodings: a command word by its fields, a transaction by its selector

A command word is fixed by the four fields of R92, and a word decodes to a command exactly when it is that command's word. The
24 words, their masks and `legal` all follow from these two facts. -/

namespace Sys2Proof

/-! ### The fields of a command word (R92) -/

/-- A one-bit field is its bit. -/
theorem extractLsb'_one (c : Word) (i : Nat) : c.extractLsb' i 1 = BitVec.ofBool (c.getLsbD i) := by
  ext j hj
  simp [Nat.lt_one_iff.1 hj]

theorem src_bit_cmdSrc (c : Word) : (cmdSrc c).bit = c.extractLsb' 5 1 := by
  rw [extractLsb'_one, cmdSrc]
  cases c.getLsbD 5 <;> rfl

theorem ksel_bit_cmdKsel (c : Word) : (cmdKsel c).bit = c.extractLsb' 4 1 := by
  rw [extractLsb'_one, cmdKsel]
  cases c.getLsbD 4 <;> rfl

/-- The four fields of a command word determine it. -/
theorem eq_commandWord_iff {c : Word} {op : BitVec 4} {k : KSel} {src : Src} :
    c = commandWord op k src ↔ cmdReserved c = 0#26 ∧ cmdSrc c = src ∧ cmdKsel c = k ∧ cmdOp c = op := by
  constructor
  · rintro rfl
    cases k <;> cases src <;> revert op <;> decide
  · rintro ⟨hres, rfl, rfl, rfl⟩
    rw [commandWord, src_bit_cmdSrc, ksel_bit_cmdKsel, ← hres, cmdReserved, cmdOp,
      BitVec.extractLsb'_append_extractLsb'_eq_extractLsb' (show 6 = 5 + 1 from rfl),
      BitVec.extractLsb'_append_extractLsb'_eq_extractLsb' (show 5 = 4 + 1 from rfl),
      BitVec.extractLsb'_append_extractLsb'_eq_extractLsb' (show 4 = 0 + 4 from rfl), BitVec.extractLsb'_eq_self]

theorem eq_commandWord_of_reserved {c : Word} (h : cmdReserved c = 0#26) :
    c = commandWord (cmdOp c) (cmdKsel c) (cmdSrc c) :=
  eq_commandWord_iff.2 ⟨h, rfl, rfl, rfl⟩

/-! ### Decoding command words (R93, R97) -/

theorem decodePlain_eq_ok {c : Word} {cmd cmd' : Cmd} :
    decodePlain c cmd = .ok cmd' ↔ cmdSrc c = .din ∧ cmdKsel c = .key0 ∧ cmd = cmd' := by
  cases hk : cmdKsel c <;> cases hs : cmdSrc c <;> simp [decodePlain, hk, hs]

theorem decodeSrc_eq_ok {c : Word} {cmd : Src → Cmd} {cmd' : Cmd} :
    decodeSrc c cmd = .ok cmd' ↔ cmdKsel c = .key0 ∧ cmd (cmdSrc c) = cmd' := by
  cases hk : cmdKsel c <;> simp [decodeSrc, hk]

theorem decodeCommand_encodeCommand (cmd : Cmd) : decodeCommand (encodeCommand cmd) = .ok cmd := by
  cases cmd with
  | nop | sbchk => rfl
  | sub src | subi src | enc src | enc2 src | dec src => cases src <;> rfl
  | kxor k src | rnd k src | irnd k src => cases k <;> cases src <;> rfl

theorem eq_encodeCommand_of_decodeCommand {c : Word} {cmd : Cmd} (h : decodeCommand c = .ok cmd) :
    c = encodeCommand cmd := by
  unfold decodeCommand at h
  split at h
  case isTrue => cases h
  case isFalse hres =>
    have hres := not_not.1 hres
    split at h
    case h_1 hop | h_10 hop =>
      obtain ⟨hs, hk, rfl⟩ := decodePlain_eq_ok.1 h
      exact eq_commandWord_iff.2 ⟨hres, hs, hk, BitVec.eq_of_toNat_eq hop⟩
    case h_2 hop | h_3 hop | h_7 hop | h_8 hop | h_9 hop =>
      obtain ⟨hk, rfl⟩ := decodeSrc_eq_ok.1 h
      exact eq_commandWord_iff.2 ⟨hres, rfl, hk, BitVec.eq_of_toNat_eq hop⟩
    case h_4 hop | h_5 hop | h_6 hop =>
      cases h
      exact eq_commandWord_iff.2 ⟨hres, rfl, rfl, BitVec.eq_of_toNat_eq hop⟩
    case h_11 => cases h

/-- A word decodes to a command exactly when it is that command's word. -/
theorem decodeCommand_eq_ok_iff {c : Word} {cmd : Cmd} : decodeCommand c = .ok cmd ↔ c = encodeCommand cmd :=
  ⟨eq_encodeCommand_of_decodeCommand, fun h => h ▸ decodeCommand_encodeCommand cmd⟩

/-! ### The 24 commands and their words (R97) -/

/-- The ten commands with every operand, in the order of their words. -/
def allCommands : List Cmd :=
  [.nop, .sub .din, .subi .din, .kxor .key0 .din, .rnd .key0 .din, .irnd .key0 .din, .enc .din, .enc2 .din, .dec .din,
    .sbchk, .kxor .key1 .din, .rnd .key1 .din, .irnd .key1 .din, .sub .dout, .subi .dout, .kxor .key0 .dout,
    .rnd .key0 .dout, .irnd .key0 .dout, .enc .dout, .enc2 .dout, .dec .dout, .kxor .key1 .dout, .rnd .key1 .dout,
    .irnd .key1 .dout]

theorem mem_allCommands (cmd : Cmd) : cmd ∈ allCommands := by
  cases cmd with
  | nop | sbchk => decide
  | sub src | subi src | enc src | enc2 src | dec src => cases src <;> decide
  | kxor k src | rnd k src | irnd k src => cases k <;> cases src <;> decide

theorem decodeCommand_eq_ok_iff_mem {c : Word} {cmd : Cmd} :
    decodeCommand c = .ok cmd ↔ (c, cmd) ∈ allCommands.map fun cmd => (encodeCommand cmd, cmd) := by
  rw [decodeCommand_eq_ok_iff, eq_comm]
  simp [mem_allCommands]

theorem exists_decodeCommand_eq_ok_iff_mem {c : Word} :
    (∃ cmd, decodeCommand c = .ok cmd) ↔ c ∈ allCommands.map encodeCommand := by
  simp only [decodeCommand_eq_ok_iff, eq_comm (a := c), List.mem_map, mem_allCommands, true_and]

/-! ### The masks of R97 -/

section
variable {m : Word} (c : Word)

theorem cmdReserved_and_mask (h : cmdReserved m = BitVec.allOnes 26) : cmdReserved (c &&& m) = cmdReserved c := by
  rw [cmdReserved, BitVec.extractLsb'_and]
  exact (congrArg (cmdReserved c &&& ·) h).trans BitVec.and_allOnes

theorem cmdOp_and_mask (h : cmdOp m = BitVec.allOnes 4) : cmdOp (c &&& m) = cmdOp c := by
  rw [cmdOp, BitVec.extractLsb'_and]
  exact (congrArg (cmdOp c &&& ·) h).trans BitVec.and_allOnes

theorem cmdSrc_and : cmdSrc (c &&& m) = if m.getLsbD 5 then cmdSrc c else .din := by
  unfold cmdSrc
  rw [BitVec.getLsbD_and]
  cases c.getLsbD 5 <;> cases m.getLsbD 5 <;> rfl

theorem cmdKsel_and : cmdKsel (c &&& m) = if m.getLsbD 4 then cmdKsel c else .key0 := by
  unfold cmdKsel
  rw [BitVec.getLsbD_and]
  cases c.getLsbD 4 <;> cases m.getLsbD 4 <;> rfl

end

/-- The mask of a command that uses SRC drops bit 5. -/
theorem exists_src_eq_commandWord_iff (c : Word) (op : BitVec 4) :
    (∃ src, c = commandWord op .key0 src) ↔ c &&& 0xFFFFFFDF#32 = commandWord op .key0 .din := by
  rw [eq_commandWord_iff, cmdReserved_and_mask c rfl, cmdOp_and_mask c rfl, cmdSrc_and, cmdKsel_and]
  simp [eq_commandWord_iff]

/-- The mask of a command that uses KSEL and SRC drops bits 4 and 5. -/
theorem exists_ksel_src_eq_commandWord_iff (c : Word) (op : BitVec 4) :
    (∃ k src, c = commandWord op k src) ↔ c &&& 0xFFFFFFCF#32 = commandWord op .key0 .din := by
  rw [eq_commandWord_iff, cmdReserved_and_mask c rfl, cmdOp_and_mask c rfl, cmdSrc_and, cmdKsel_and]
  simp [eq_commandWord_iff]

/-- The mask of a command without operand fields drops nothing. -/
theorem eq_word_iff_and_mask (c w : Word) : c = w ↔ c &&& 0xFFFFFFFF#32 = w := by
  rw [show 0xFFFFFFFF#32 = BitVec.allOnes 32 from rfl, BitVec.and_allOnes]

/-! ### The four checks of R95 -/

theorem cmdOp_toNat (c : Word) : (cmdOp c).toNat = c.toNat % 16 := by
  simp [cmdOp]

theorem cmdReserved_toNat (c : Word) : (cmdReserved c).toNat = c.toNat / 64 := by
  have hdiv : c.toNat / 64 < 2 ^ 26 := by omega
  simpa [cmdReserved, Nat.shiftRight_eq_div_pow] using hdiv

theorem opUsesKsel_iff (op : BitVec 4) : opUsesKsel op.toNat = true ↔ op ∈ [0x3#4, 0x4#4, 0x5#4] := by
  revert op
  decide

theorem opUsesSrc_iff (op : BitVec 4) :
    opUsesSrc op.toNat = true ↔ op ∈ [0x1#4, 0x2#4, 0x3#4, 0x4#4, 0x5#4, 0x6#4, 0x7#4, 0x8#4] := by
  revert op
  decide

/-- `legal` speaks of the fields of the word (R95). -/
theorem legal_iff (c : Word) :
    legal c = true ↔ cmdReserved c = 0#26 ∧ cmdOp c ≤ 0x9#4 ∧
      (c.getLsbD 4 = true → cmdOp c ∈ [0x3#4, 0x4#4, 0x5#4]) ∧
      (c.getLsbD 5 = true → cmdOp c ∈ [0x1#4, 0x2#4, 0x3#4, 0x4#4, 0x5#4, 0x6#4, 0x7#4, 0x8#4]) := by
  have hres : cmdReserved c = 0#26 ↔ c.toNat / 64 = 0 := by
    rw [← cmdReserved_toNat, ← BitVec.toNat_inj]; rfl
  have hop : cmdOp c ≤ 0x9#4 ↔ c.toNat % 16 ≤ 9 := by
    rw [← cmdOp_toNat, BitVec.le_def]; rfl
  rw [hres, hop, ← opUsesKsel_iff, ← opUsesSrc_iff, cmdOp_toNat, legal]
  cases c.getLsbD 4 <;> cases c.getLsbD 5 <;> simp [and_assoc]

/-- The legal words are the words of the commands. -/
theorem legal_iff_mem_words (c : Word) : legal c = true ↔ c ∈ allCommands.map encodeCommand := by
  constructor
  · intro h
    have hc := eq_commandWord_of_reserved ((legal_iff c).1 h).1
    generalize cmdOp c = op, cmdKsel c = k, cmdSrc c = src at hc
    subst hc
    revert op
    cases k <;> cases src <;> decide
  · have hall : (allCommands.map encodeCommand).all legal = true := by decide
    exact List.all_eq_true.1 hall c

/-! ### Both levels of R90 -/

theorem encode_toInstr (cmd : Cmd) : encode cmd.toInstr = .command (encodeCommand cmd) := by
  cases cmd <;> rfl

theorem encode_readInstr (r : Reg) : encode r.readInstr = r.readWord := by
  cases r <;> rfl

theorem encode_writeInstr (r : Reg) (v : Word) : encode (r.writeInstr v) = r.writeWord v := by
  cases r <;> rfl

theorem decode_command_encodeCommand (cmd : Cmd) : decode (.command (encodeCommand cmd)) = .ok cmd.toInstr := by
  rw [decode, decodeCommand_encodeCommand]
  rfl

theorem decode_readWord (r : Reg) : decode r.readWord = .ok r.readInstr := by
  cases r <;> rfl

theorem decode_writeWord (r : Reg) (v : Word) : decode (r.writeWord v) = .ok (r.writeInstr v) := by
  cases r <;> rfl

theorem decode_command_eq_ok_iff {c : Word} {i : Instr} :
    decode (.command c) = .ok i ↔ ∃ cmd, c = encodeCommand cmd ∧ cmd.toInstr = i := by
  simp only [← decodeCommand_eq_ok_iff]
  cases h : decodeCommand c <;> simp [decode, h, Except.map]

theorem addr_ofAddr (a : BitVec 4) : (Reg.ofAddr a).addr = a := by
  revert a
  decide

/-- A selector is its `we` bit and its address (R91). -/
theorem append_addr_eq_selector {t : Selector} {we : Bool} (h : t.getLsbD 4 = we) :
    BitVec.ofBool we ++ (Reg.ofAddr (t.extractLsb' 0 4)).addr = t := by
  subst h
  rw [addr_ofAddr]
  revert t
  decide

theorem encode_decodeTransaction_write {t : Selector} (h : t.getLsbD 4 = true) (wdata : Word) :
    encode (decodeTransaction t wdata) = .transaction t wdata := by
  rw [decodeTransaction, if_pos h, encode_writeInstr, Reg.writeWord,
    show 1#1 = BitVec.ofBool true from rfl, append_addr_eq_selector h]

theorem encode_decodeTransaction_read {t : Selector} (h : t.getLsbD 4 = false) (wdata : Word) :
    encode (decodeTransaction t wdata) = .transaction t 0#32 := by
  rw [decodeTransaction, if_neg (Bool.eq_false_iff.1 h), encode_readInstr, Reg.readWord,
    show 0#1 = BitVec.ofBool false from rfl, append_addr_eq_selector h]

end Sys2Proof

/-! ## What the lines of a program do: commands by their words, `LOADSB` and `WAIT` -/

namespace Sys2Proof.Machine

theorem command?_toInstr (cmd : Cmd) : cmd.toInstr.command? = some cmd := by
  cases cmd <;> rfl

theorem command?_wrCmd_of_decode {c : Word} {cmd : Cmd} (h : decodeCommand c = .ok cmd) :
    (Instr.wrCmd c).command? = some cmd := by
  simp [Instr.command?, h, Except.toOption]

/-- A word that is not legal stands for no command. -/
theorem command?_wrCmd_of_illegal {c : Word} (h : legal c = false) : (Instr.wrCmd c).command? = none := by
  cases hd : decodeCommand c with
  | error r => simp [Instr.command?, hd, Except.toOption]
  | ok cmd =>
    have hlegal := (legal_iff_mem_words c).2 (exists_decodeCommand_eq_ok_iff_mem.1 ⟨cmd, hd⟩)
    simp [h] at hlegal

/-- An accepted word that is not legal (R112). -/
theorem exec_wrCmd_illegal {c : Word} {s : State} (hb : s.dev.busy = false) (h : legal c = false) :
    exec (.wrCmd c) s = .next { s with dev := { s.dev with err := .illegalCmd, done := true } } := by
  rw [exec_of_illegal_command rfl (command?_wrCmd_of_illegal h)]
  exact next_onDev (illegalCommand_idle hb)

/-- A command that passes its checks (R110, R111). -/
theorem exec_accepted {i : Instr} {cmd : Cmd} {s : State} (hc : i.command? = some cmd) (hb : s.dev.busy = false)
    (hs : cmd.readsLut = true → s.dev.sbv = true) :
    exec i s = .next { s with dev := commandOperation cmd s.dev.accept } := by
  rw [exec_of_command? hc]
  exact next_onDev (runCommand_accepted hb hs)

/-! ### The default interleaving -/

theorem Device.Inv.engOp_eq_idle {d : Device} (h : d.Inv) (hb : d.busy = false) : d.engOp = .idle := by
  by_contra hop
  simp [h.busy_iff.2 hop] at hb

/-- With the interleaving used up and the engine idle it is the host's turn. -/
theorem turn_eq_host_of_idle {s : State} (hs : s.sched = []) (hop : s.dev.engOp = .idle) : s.turn = .host := by
  simp [State.turn, hs, defaultTurn, engineEnabled, hop]

/-- With the interleaving used up and the engine idle the step is the transaction of the host's next line. -/
theorem step_of_idle {s : State} {p : PortWord} {i : Instr} {rest : List HostLine} (hs : s.sched = [])
    (hop : s.dev.engOp = .idle) (hr : s.rstN = true) (hh : s.host = .word p :: rest) (hd : decode p = .ok i) :
    step s = exec i { s with host := rest } := by
  rw [step_eq_exec_presented (turn_eq_host_of_idle hs hop) hr hh, presented_of_decode_ok hd]
  simp [hs]

theorem coreRun_succ {M : Host.Core} {s t : M.State} (h : M.step s = .next t) (k : Nat) : M.run (k + 1) s = M.run k t := by
  simp [Host.Core.run, h]

theorem runSteps_succ {s t : State} (h : step s = .next t) (k : Nat) : runSteps (k + 1) s = runSteps k t :=
  coreRun_succ (M := core) h k

/-- With the interleaving used up and the engine idle, a line whose transaction takes SBC8 to `e` is one step of the run. -/
theorem runSteps_succ_of_idle {s : State} {p : PortWord} {i : Instr} {rest : List HostLine} {f : Device → Device}
    {e : Device} {k : Nat} (hs : s.sched = []) (hop : s.dev.engOp = .idle) (hr : s.rstN = true)
    (hh : s.host = .word p :: rest) (hd : decode p = .ok i) (hx : ∀ u, exec i u = .next (u.onDev f)) (he : f s.dev = e) :
    runSteps (k + 1) s = runSteps k { s with host := rest, dev := e } := by
  subst he
  exact runSteps_succ ((step_of_idle hs hop hr hh hd).trans (hx _)) k

/-! ### `LOADSB` (R100, R236) -/

/-- Both halves of a packed table unpack to the table, whatever was there. -/
theorem unpackInto_pack_both (T U : Lut) : unpackInto (unpackInto U 0 (pack T 0)) 8 (pack T 8) = T := by
  refine Vector.ext fun j hj => ?_
  rcases Nat.lt_or_ge j 8 with hlo | hhi
  · rw [(unpackInto_hi _ _ hlo).2, (unpackInto_lo _ _ hlo).1, nibbleAt_pack T 0 hlo, lookup_ofNat T (by omega)]
    simp
  · obtain ⟨i, rfl⟩ := Nat.exists_eq_add_of_le hhi
    rw [(unpackInto_hi _ _ (by omega)).1, nibbleAt_pack T 8 (by omega), lookup_ofNat]

/-- The second half completes the table. -/
theorem guardedWrite_pack_hi (T : Lut) {d : Device} (hb : d.busy = false) :
    guardedWrite true (Device.loadSbox 8 (pack T 8)) (d.loadSbox 0 (pack T 0)) = { d with sbox := T, sbv := false } := by
  rw [guardedWrite_stored ((loadSbox_busy d 0 _).trans hb) rfl]
  simp only [Device.loadSbox, unpackInto_pack_both]

theorem checkSbox_of_bijective {d : Device} (h : bijective d.sbox = true) :
    checkSbox d = { d with isbox := invert d.sbox, sbv := true, done := true } := if_pos h

theorem checkSbox_of_not_bijective {d : Device} (h : bijective d.sbox = false) : checkSbox d = d.refuse .invalidSbox :=
  if_neg (Bool.eq_false_iff.1 h)

/-- The three lines of `LOADSB` from an idle machine: SBCHK meets the new table, with SBV cleared. -/
theorem runSteps_loadSbLines {s : State} {T : Lut} (hs : s.sched = []) (hop : s.dev.engOp = .idle) (hr : s.rstN = true)
    (hb : s.dev.busy = false) (hh : s.host = loadSbLines T) :
    runSteps 3 s = .next { s with host := [], dev := checkSbox { s.dev with
      sbox := T, sbv := false, err := .none, done := false } } :=
  calc runSteps 3 s
    _ = runSteps 2 { s with host := [wrLine .sboxHi (pack T 8), cmdLine .sbchk], dev := s.dev.loadSbox 0 (pack T 0) } :=
        runSteps_succ_of_idle hs hop hr hh (decode_writeWord .sboxLo _) (fun _ => rfl) (guardedWrite_stored hb rfl)
    _ = runSteps 1 { s with host := [cmdLine .sbchk], dev := { s.dev with sbox := T, sbv := false } } :=
        runSteps_succ_of_idle hs ((loadSbox_engOp _ _ _).trans hop) hr rfl (decode_writeWord .sboxHi _) (fun _ => rfl)
          (guardedWrite_pack_hi T hb)
    _ = runSteps 0 { s with host := [], dev := checkSbox { s.dev with
          sbox := T, sbv := false, err := .none, done := false } } :=
        runSteps_succ_of_idle hs hop hr rfl (decode_command_encodeCommand .sbchk)
          (exec_of_command? (command?_toInstr .sbchk)) (runCommand_accepted hb nofun)

/-! ### `WAIT` (R100) -/

theorem step_wait {s : State} {rest : List HostLine} (ht : s.turn = .host) (hh : s.host = .wait :: rest) :
    step s = .next (pollWait rest s.takeTurn) := by
  simp [step, ht, hostTurn, hh]

theorem pollWait_of_idle {s : State} (rest : List HostLine) (hr : s.rstN = true) (hb : s.dev.busy = false) :
    pollWait rest s = { s with host := rest, reads := s.reads ++ [s.dev.statusWord] } := by
  rcases pollWait_cases rest s with ⟨-, -, he⟩ | ⟨hstay, -⟩
  · exact he
  · simp [hr, hb] at hstay

theorem pollWait_stays {s : State} (rest : List HostLine) (h : s.rstN = false ∨ s.dev.busy = true) :
    pollWait rest s = s := by
  rcases pollWait_cases rest s with ⟨hr, hb, -⟩ | ⟨-, he⟩
  · simp [hr, hb] at h
  · exact he

end Sys2Proof.Machine

/-! ## The obligations of 30_encoding.md -/

section
open Sys2Proof Sys2Proof.Machine

/-- Settles O1: a command by its word, a read and a write of a register by its selector. -/
theorem decodeInvertsEncode : Obligations.DecodeInvertsEncode := by
  unfold Obligations.DecodeInvertsEncode
  intro i _
  cases i
  case nop | sub | subi | kxor | rnd | irnd | enc | enc2 | dec | sbchk => exact decode_command_encodeCommand _
  case rdCmd | rdStatus | rdCtrl | rdId | rdDin | rdDout | rdKey0 | rdKey1 | rdRounds | rdRsvd24 | rdSboxLo | rdSboxHi
      | rdIsboxLo | rdIsboxHi | rdRsvd38 | rdRsvd3C =>
    exact decode_readWord _
  all_goals exact decode_writeWord _ _

/-- Settles O2: a decoded word is its command's word; a transaction keeps its selector, and a write its data. -/
theorem encodeInvertsDecode : Obligations.EncodeInvertsDecode := by
  unfold Obligations.EncodeInvertsDecode
  intro p i h
  cases p with
  | command c =>
    obtain ⟨cmd, rfl, rfl⟩ := decode_command_eq_ok_iff.1 h
    exact ⟨fun _ => encode_toInstr cmd, fun hwe => by simp [PortWord.signals] at hwe⟩
  | transaction t wdata =>
    cases h
    exact ⟨fun hwe => encode_decodeTransaction_write hwe wdata, fun hwe => encode_decodeTransaction_read hwe wdata⟩

/-- Settles O3: the pairs are those of `allCommands`, and each mask keeps the fields its command fixes. -/
theorem legalWordsAreTheTwentyFour : Obligations.LegalWordsAreTheTwentyFour := by
  unfold Obligations.LegalWordsAreTheTwentyFour
  refine ⟨fun c cmd => decodeCommand_eq_ok_iff_mem.trans (List.Perm.mem_iff (by decide)), fun c => ?_⟩
  simp only [decodeCommand_eq_ok_iff]
  exact ⟨eq_word_iff_and_mask c _, exists_src_eq_commandWord_iff c 0x1#4, exists_src_eq_commandWord_iff c 0x2#4,
    exists_ksel_src_eq_commandWord_iff c 0x3#4, exists_ksel_src_eq_commandWord_iff c 0x4#4,
    exists_ksel_src_eq_commandWord_iff c 0x5#4, exists_src_eq_commandWord_iff c 0x6#4,
    exists_src_eq_commandWord_iff c 0x7#4, exists_src_eq_commandWord_iff c 0x8#4, eq_word_iff_and_mask c _⟩

/-- Settles O4: the checks are `legal_iff`, and the legal words are those of the 24 commands. -/
theorem illegalWordsAreRefusedByTheFourChecks : Obligations.IllegalWordsAreRefusedByTheFourChecks := by
  unfold Obligations.IllegalWordsAreRefusedByTheFourChecks
  exact ⟨legal_iff, fun c => (legal_iff_mem_words c).trans exists_decodeCommand_eq_ok_iff_mem.symm, legal_iff_mem_words,
    fun c s hb h => exec_wrCmd_illegal hb h⟩

/-- Settles O5: the legal encodings are those of their instructions, and 0x11 has KSEL = 1 with SUB. -/
theorem workedEncodingsDecode : Obligations.WorkedEncodingsDecode := by
  unfold Obligations.WorkedEncodingsDecode
  exact ⟨decode_command_encodeCommand (.rnd .key1 .dout), decode_command_encodeCommand (.enc .din),
    decode_writeWord .key0 0x46#32, rfl, rfl⟩

/-- Settles O6: both transactions present the same command. -/
theorem writingACommandWordIsTheCommand : Obligations.WritingACommandWordIsTheCommand := by
  unfold Obligations.WritingACommandWordIsTheCommand
  intro c cmd s h
  rw [exec_of_command? (command?_wrCmd_of_decode h), exec_of_command? (command?_toInstr cmd)]

/-- Settles O8: the poll that finds BUSY = 0 ends the line, any other leaves it. -/
theorem waitPollsUntilNotBusy : Obligations.WaitPollsUntilNotBusy := by
  unfold Obligations.WaitPollsUntilNotBusy
  intro s rest ht hh
  rw [step_wait ht hh]
  exact ⟨fun hr hb => congrArg _ (pollWait_of_idle (s := s.takeTurn) rest hr hb),
    fun _ hb => congrArg _ (pollWait_stays (s := s.takeTurn) rest (.inr hb)),
    fun hr => congrArg _ (pollWait_stays (s := s.takeTurn) rest (.inl hr))⟩

/-- Settles O27: each command, accepted, performs its operation on the device before it. -/
theorem sourceIsReadBeforeDoutIsWritten : Obligations.SourceIsReadBeforeDoutIsWritten := by
  unfold Obligations.SourceIsReadBeforeDoutIsWritten
  intro s src block hb hblock
  obtain rfl : block = s.dev.source src := by
    rcases hblock with ⟨rfl, h⟩ | ⟨rfl, h⟩ <;> exact h
  have hkxor (k : KSel) := exec_accepted (command?_toInstr (.kxor k src)) hb nofun
  refine ⟨hkxor .key0, hkxor .key1, fun hs => ?_⟩
  have haccept (cmd : Cmd) := exec_accepted (command?_toInstr cmd) hb fun _ => hs
  exact ⟨haccept (.sub src), haccept (.subi src), haccept (.rnd .key0 src), haccept (.rnd .key1 src),
    haccept (.irnd .key0 src), haccept (.irnd .key1 src), haccept (.enc src), haccept (.enc2 src), haccept (.dec src)⟩

/-- Settles O50: SBCHK meets the new table, and commits it exactly when it is a bijection. -/
theorem loadSbCommitsABijection : Obligations.LoadSbCommitsABijection := by
  unfold Obligations.LoadSbCommitsABijection
  intro s T hinv hr hb hs hh
  rw [runSteps_loadSbLines hs (hinv.dev.engOp_eq_idle hb) hr hb hh]
  refine ⟨fun hbij => ?_, fun hbij => ?_⟩
  · rw [checkSbox_of_bijective hbij]
  · rw [checkSbox_of_not_bijective hbij]
    rfl

end

/-! ## What presenting a command does: its lifecycle, how it completes, what it leaves -/

namespace Sys2Proof.Machine

@[simp] theorem checkSbox_sbox (d : Device) : (checkSbox d).sbox = d.sbox := by
  rcases checkSbox_cases d with ⟨-, h⟩ | ⟨-, h⟩ <;> simp [h]

@[simp] theorem checkSbox_din (d : Device) : (checkSbox d).din = d.din := by
  rcases checkSbox_cases d with ⟨-, h⟩ | ⟨-, h⟩ <;> simp [h]

@[simp] theorem checkSbox_key0 (d : Device) : (checkSbox d).key0 = d.key0 := by
  rcases checkSbox_cases d with ⟨-, h⟩ | ⟨-, h⟩ <;> simp [h]

@[simp] theorem checkSbox_key1 (d : Device) : (checkSbox d).key1 = d.key1 := by
  rcases checkSbox_cases d with ⟨-, h⟩ | ⟨-, h⟩ <;> simp [h]

@[simp] theorem checkSbox_rounds (d : Device) : (checkSbox d).rounds = d.rounds := by
  rcases checkSbox_cases d with ⟨-, h⟩ | ⟨-, h⟩ <;> simp [h]

@[simp] theorem checkSbox_busy (d : Device) : (checkSbox d).busy = d.busy := by
  rcases checkSbox_cases d with ⟨-, h⟩ | ⟨-, h⟩ <;> simp [h]

@[simp] theorem checkSbox_done (d : Device) : (checkSbox d).done = true := by
  rcases checkSbox_cases d with ⟨-, h⟩ | ⟨-, h⟩ <;> simp [h]

/-! ### The operations of the ten commands: their frame (R117) and how they end (R111, R114, R115) -/

section
variable (c : Cmd) (d : Device)

@[simp] theorem commandOperation_sbox : (commandOperation c d).sbox = d.sbox := by
  cases c <;> simp [commandOperation]

@[simp] theorem commandOperation_din : (commandOperation c d).din = d.din := by
  cases c <;> simp [commandOperation]

@[simp] theorem commandOperation_key0 : (commandOperation c d).key0 = d.key0 := by
  cases c <;> simp [commandOperation]

@[simp] theorem commandOperation_key1 : (commandOperation c d).key1 = d.key1 := by
  cases c <;> simp [commandOperation]

@[simp] theorem commandOperation_rounds : (commandOperation c d).rounds = d.rounds := by
  cases c <;> simp [commandOperation]

/-- Past the checks a command sets DONE, but for ENC, ENC2 and DEC, which start the engine (R114, R115). -/
theorem commandOperation_completes_or_starts :
    ((commandOperation c d).done = true ∧ (commandOperation c d).busy = d.busy) ∨
    ((∃ src, c ∈ [Cmd.enc src, .enc2 src, .dec src]) ∧ c.readsLut = true ∧
      ∃ op x n, commandOperation c d = d.startEngine op x n) := by
  cases c
  case enc src | enc2 src | dec src => exact .inr ⟨⟨src, by simp⟩, rfl, _, _, _, rfl⟩
  case sbchk => exact .inl ⟨checkSbox_done d, checkSbox_busy d⟩
  all_goals exact .inl ⟨rfl, rfl⟩

variable {c}

theorem commandOperation_isbox_sbv (h : c ≠ .sbchk) :
    (commandOperation c d).isbox = d.isbox ∧ (commandOperation c d).sbv = d.sbv := by
  cases c
  case sbchk => exact absurd rfl h
  all_goals exact ⟨rfl, rfl⟩

/-- A command that reads no LUT completes without an error; SBCHK does on a bijection (R113). -/
theorem commandOperation_completes_without_error (hlut : c.readsLut = false)
    (hbij : c = .sbchk → bijective d.sbox = true) :
    (commandOperation c d).err = d.err ∧ (commandOperation c d).done = true := by
  cases c
  case nop | kxor => exact ⟨rfl, rfl⟩
  case sbchk => simp [commandOperation, checkSbox_of_bijective (hbij rfl)]
  all_goals cases hlut

end

/-! ### The transaction that presents a command (R110) -/

theorem command?_wrCmd_eq_some_iff {v : Word} {c : Cmd} :
    (Instr.wrCmd v).command? = some c ↔ decodeCommand v = .ok c := by
  cases h : decodeCommand v <;> simp [Instr.command?, h, Except.toOption]

/-- The table check of R113. -/
theorem exec_uncommitted {i : Instr} {c : Cmd} {s : State} (hc : i.command? = some c) (hlut : c.readsLut = true)
    (hb : s.dev.busy = false) (hs : s.dev.sbv = false) :
    exec i s = .next { s with dev := { s.dev with err := .invalidSbox, done := true } } := by
  rw [exec_of_command? hc, hlut]
  exact next_onDev (runCommand_table hb hs)

/-- A presented command, whatever its word: refused while the engine runs; accepted and refused with an error; or accepted
and performed, past its checks. The environment is unchanged. -/
theorem exec_presentedCommand_cases {i : Instr} (hp : i.presentsCommand = true) (s : State) :
    (s.dev.busy = true ∧ exec i s = .next { s with dev := s.dev.raise .busy }) ∨
    (s.dev.busy = false ∧ ∃ code, exec i s = .next { s with dev := s.dev.accept.refuse code }) ∨
    (s.dev.busy = false ∧ ∃ c, i.command? = some c ∧ (c.readsLut = true → s.dev.sbv = true) ∧
      exec i s = .next { s with dev := commandOperation c s.dev.accept }) := by
  cases hb : s.dev.busy
  case true => exact .inl ⟨rfl, exec_presentedCommand_busy hp hb⟩
  case false =>
    right
    cases hc : i.command? with
    | none =>
      rw [exec_of_illegal_command hp hc]
      exact .inl ⟨rfl, .illegalCmd, next_onDev (illegalCommand_idle hb)⟩
    | some c =>
      by_cases hs : c.readsLut = true → s.dev.sbv = true
      · exact .inr ⟨rfl, c, rfl, hs, exec_accepted hc hb hs⟩
      · obtain ⟨hlut, hsbv⟩ : c.readsLut = true ∧ s.dev.sbv = false := by simpa using hs
        exact .inl ⟨rfl, .invalidSbox, exec_uncommitted hc hlut hb hsbv⟩

/-- A command obeys R110-R113 with the result its operation gives after acceptance. -/
theorem obeysLifecycle_of_command? {i : Instr} {c : Cmd} {result : Device → Device} (hc : i.command? = some c)
    (hresult : ∀ d : Device, commandOperation c d.accept = result d) (op : Nat) :
    ObeysLifecycle i op c.readsLut result :=
  ⟨fun _ hb => exec_presentedCommand_busy (presentsCommand_of_command? hc) hb,
    fun _ hb hlut hs => exec_uncommitted hc hlut hb hs,
    fun s hb hs => hresult s.dev ▸ exec_accepted hc hb hs,
    fun _ _ hb _ hillegal => exec_wrCmd_illegal hb hillegal⟩

end Sys2Proof.Machine

/-! ## The obligations of 40_command.md -/

section
open Sys2Proof Sys2Proof.Machine

/-- Settles O30: the check refuses the seven, and the operations of the other three raise no error. -/
theorem tableCheckRefusesUncommittedTables : Obligations.TableCheckRefusesUncommittedTables := by
  unfold Obligations.TableCheckRefusesUncommittedTables
  refine ⟨fun cmd s hlut hb hs => exec_uncommitted (command?_toInstr cmd) hlut hb hs, fun cmd s hlut hb hbij => ?_⟩
  have hx := exec_accepted (s := s) (command?_toInstr cmd) hb (by simp [hlut])
  exact ⟨_, hx, commandOperation_completes_without_error s.dev.accept hlut hbij⟩

/-- Settles O31: a refusal sets DONE, and so does every operation that does not start the engine. -/
theorem acceptedCommandsCompleteOrStartTheEngine : Obligations.AcceptedCommandsCompleteOrStartTheEngine := by
  unfold Obligations.AcceptedCommandsCompleteOrStartTheEngine
  intro s c hb
  rcases exec_presentedCommand_cases (i := .wrCmd c) rfl s with ⟨hbusy, -⟩ | ⟨-, code, hx⟩ | ⟨-, cmd, hc, hs, hx⟩
  · simp [hb] at hbusy
  · exact ⟨_, hx, .inl ⟨rfl, hb⟩⟩
  · refine ⟨_, hx, ?_⟩
    rcases commandOperation_completes_or_starts cmd s.dev.accept with
      ⟨hdone, hkeep⟩ | ⟨⟨src, hmem⟩, hlut, op, x, n, hstart⟩
    · exact .inl ⟨hdone, hkeep.trans hb⟩
    · rw [command?_wrCmd_eq_some_iff.1 hc, hstart]
      exact .inr ⟨rfl, rfl, rfl, hs hlut, rfl, src, List.mem_map_of_mem (f := Except.ok) hmem⟩

/-- Settles O32: a refusal writes ERR and DONE only, an operation keeps its frame, and DOUT has the cause
`ExecEffect.dout_cause` names. -/
theorem stateCommandsNeverWrite : Obligations.StateCommandsNeverWrite := by
  unfold Obligations.StateCommandsNeverWrite
  intro i s t hp h
  rw [← and_assoc]
  refine ⟨?_, fun hdout => ?_⟩
  · rcases exec_presentedCommand_cases hp s with ⟨-, hx⟩ | ⟨-, code, hx⟩ | ⟨-, c, hc, -, hx⟩
    case inr.inr =>
      cases hx.symm.trans h
      have hne (hsbchk : i.command? ≠ some .sbchk) : c ≠ .sbchk := fun he => hsbchk (he ▸ hc)
      exact ⟨by simp, fun hsbchk => commandOperation_isbox_sbv s.dev.accept (hne hsbchk)⟩
    all_goals
      cases hx.symm.trans h
      simp
  · obtain ⟨c, hc, hdelivers, hb, hs⟩ := (exec_effect h).dout_cause hdout
    exact ⟨hb, c, hc, hdelivers, hs⟩

/-- Settles O23: NOP's operation only sets DONE, and STATUS 0x24 says ERR = DOMAIN, SBV = 1 and BUSY = 0. -/
theorem nopClearsErrAndCompletes : Obligations.NopClearsErrAndCompletes := by
  unfold Obligations.NopClearsErrAndCompletes
  refine ⟨encode_toInstr .nop, obeysLifecycle_of_command? (c := .nop) rfl (fun _ => rfl) 0x0, fun s hstatus => ?_⟩
  obtain ⟨hbusy, -, hsbv, -⟩ := statusWord_fields s.dev
  rw [hstatus] at hbusy hsbv
  refine ⟨_, exec_accepted (command?_toInstr .nop) hbusy.symm nofun, ?_⟩
  simp only [commandOperation, Device.statusWord, complete_err, complete_sbv, complete_done, complete_busy, accept_err,
    accept_sbv, accept_busy, ← hbusy, ← hsbv]
  rfl

end

/-! ## The tables: bijection, inverse, substitution, and the invariant every step keeps

A table is seen as the function `lookup T` on nibbles: it is a bijection when that function is injective (R121), and
then `lookup (invert T)` is the inverse function on both sides (R122, R124). -/

namespace Sys2Proof.Machine

theorem mem_toList_iff {T : Lut} {v : Nibble} : v ∈ T.toList ↔ ∃ i, lookup T i = v := by
  rw [List.mem_iff_getElem]
  constructor
  · rintro ⟨j, hj, rfl⟩
    exact ⟨BitVec.ofNat 4 j, lookup_ofNat T (by simpa using hj)⟩
  · rintro ⟨i, rfl⟩
    exact ⟨i.toNat, by simp [i.isLt], rfl⟩

/-- The pairwise distinct entries of R121, index by index. -/
theorem bijective_iff_getElem_inj (T : Lut) :
    bijective T = true ↔ ∀ (i j : Nat) (hi : i < 16) (hj : j < 16), T[i] = T[j] → i = j := by
  rw [bijective, decide_eq_true_eq, List.nodup_iff_injective_getElem]
  constructor
  · intro h i j hi hj he
    exact Fin.mk.inj (h (a₁ := ⟨i, by simpa using hi⟩) (a₂ := ⟨j, by simpa using hj⟩) he)
  · intro h i j he
    exact Fin.ext (h i j (by simpa using i.isLt) (by simpa using j.isLt) he)

theorem bijective_iff_injective (T : Lut) : bijective T = true ↔ Function.Injective (lookup T) := by
  rw [bijective_iff_getElem_inj]
  constructor
  · intro h i j he
    exact BitVec.eq_of_toNat_eq (h i.toNat j.toNat i.isLt j.isLt he)
  · intro h i j hi hj he
    rw [← lookup_ofNat T hi, ← lookup_ofNat T hj] at he
    simpa [Nat.mod_eq_of_lt, hi, hj] using congrArg BitVec.toNat (h he)

/-- Sixteen distinct nibbles are all the nibbles. -/
theorem surjective_of_bijective {T : Lut} (h : bijective T = true) : Function.Surjective (lookup T) :=
  Finite.surjective_of_injective ((bijective_iff_injective T).1 h)

/-- Every value occurs exactly once (R121). -/
theorem bijective_iff_count (T : Lut) : bijective T = true ↔ ∀ v : Nibble, T.toList.count v = 1 := by
  constructor
  · intro h v
    exact List.count_eq_one_of_mem (of_decide_eq_true h) (mem_toList_iff.2 (surjective_of_bijective h v))
  · intro h
    exact decide_eq_true (List.nodup_iff_count_eq_one.2 fun v _ => h v)

/-! ### `invert` (R122) -/

theorem lookup_invert (T : Lut) (v : Nibble) : lookup (invert T) v = BitVec.ofNat 4 (T.toList.idxOf v) := by
  simp [lookup, invert]

/-- `invert` gives an index at which the value stands. -/
theorem lookup_lookup_invert {T : Lut} (h : bijective T = true) (v : Nibble) : lookup T (lookup (invert T) v) = v := by
  have hlt : T.toList.idxOf v < T.toList.length :=
    List.idxOf_lt_length_iff.2 (mem_toList_iff.2 (surjective_of_bijective h v))
  rw [lookup_invert, lookup_ofNat T (by simpa using hlt)]
  exact List.getElem_idxOf hlt

/-- Entry `v` of the inverse is the one index at which `v` stands (R122). -/
theorem lookup_invert_eq_iff {T : Lut} (h : bijective T = true) (v i : Nibble) :
    lookup (invert T) v = i ↔ lookup T i = v := by
  constructor
  · rintro rfl
    exact lookup_lookup_invert h v
  · rintro rfl
    exact (bijective_iff_injective T).1 h (lookup_lookup_invert h _)

theorem lookup_invert_lookup {T : Lut} (h : bijective T = true) (v : Nibble) : lookup (invert T) (lookup T v) = v :=
  (lookup_invert_eq_iff h _ v).2 rfl

theorem bijective_invert {T : Lut} (h : bijective T = true) : bijective (invert T) = true :=
  (bijective_iff_injective _).2 (Function.LeftInverse.injective (lookup_lookup_invert h))

/-- With SBV = 1 SBCHK rewrites ISBOX and SBV with the values they hold (R123, R125). -/
theorem checkSbox_of_committed {d : Device} (h : d.Committed) (hs : d.sbv = true) : checkSbox d = d.complete := by
  obtain ⟨hbij, hisbox⟩ := h
  rw [checkSbox_of_bijective hbij, ← hisbox]
  simp [Device.complete, hs]

/-! ### `sub` by lanes (R120, R128) -/

@[simp] theorem hiNibble_sub (b : Block) (T : Lut) : hiNibble (sub b T) = lookup T (hiNibble b) :=
  BitVec.extractLsb'_append_eq_left

@[simp] theorem loNibble_sub (b : Block) (T : Lut) : loNibble (sub b T) = lookup T (loNibble b) :=
  BitVec.extractLsb'_append_eq_right

theorem hiNibble_append_loNibble (b : Block) : hiNibble b ++ loNibble b = b := by
  rw [hiNibble, loNibble, BitVec.extractLsb'_append_extractLsb'_eq_extractLsb' (show 4 = 0 + 4 from rfl),
    BitVec.extractLsb'_eq_self]

/-- A table that undoes another on nibbles undoes it on Blocks. -/
theorem sub_sub_cancel {T U : Lut} (h : ∀ v, lookup U (lookup T v) = v) (b : Block) : sub (sub b T) U = b := by
  rw [sub, hiNibble_sub, loNibble_sub, h, h, hiNibble_append_loNibble]

/-! ### The invariant under the shared operations

An idle device has the invariant as soon as its tables do; a running one keeps it while its engine's fields, SBV and the
tables stand. -/

namespace Device

/-- What the invariant asks of an idle device. -/
theorem inv_of_idle {d : Device} (hb : d.busy = false) (hop : d.engOp = .idle) (hlut : d.sbv = true → d.Committed)
    (hisbox : bijective d.isbox = true) : d.Inv where
  busy_iff := by simp [hb, hop]
  count_le := by simp [hb]
  busy_not_done := by simp [hb]
  busy_sbv := by simp [hb]
  lut := hlut
  isbox_bijective := hisbox

theorem reset_inv : reset.Inv :=
  inv_of_idle rfl rfl (fun _ => ⟨by decide, by decide⟩) (by decide)

namespace Inv
variable {d e : Device}

theorem raise (h : d.Inv) (code : ErrCode) : (d.raise code).Inv := { h with }

theorem accept (h : d.Inv) : d.accept.Inv := { h with busy_not_done := fun _ => rfl }

theorem withIe (h : d.Inv) (level : Bool) : ({ d with ie := level } : Device).Inv := { h with }

/-- A write to STATUS can only clear DONE (R63). -/
theorem writeStatus (h : d.Inv) (v : Word) : (d.writeStatus v).Inv := by
  rw [writeStatus_eq]
  exact { h with busy_not_done := fun hb => by simp [h.busy_not_done hb] }

theorem refuse (h : d.Inv) (hb : d.busy = false) (code : ErrCode) : (d.refuse code).Inv :=
  inv_of_idle hb (h.engOp_eq_idle hb) h.lut h.isbox_bijective

theorem complete (h : d.Inv) (hb : d.busy = false) : d.complete.Inv :=
  inv_of_idle hb (h.engOp_eq_idle hb) h.lut h.isbox_bijective

theorem deliver (h : d.Inv) (hb : d.busy = false) (b : Block) : (d.deliver b).Inv :=
  inv_of_idle hb (h.engOp_eq_idle hb) h.lut h.isbox_bijective

/-- SBCHK commits a bijection with its inverse, or leaves the tables and SBV (R123, R125). -/
theorem checkSbox (h : d.Inv) (hb : d.busy = false) : (checkSbox d).Inv := by
  rcases checkSbox_cases d with ⟨hbij, he⟩ | ⟨-, he⟩ <;> rw [he]
  · exact inv_of_idle hb (h.engOp_eq_idle hb) (fun _ => ⟨hbij, rfl⟩) (bijective_invert hbij)
  · exact h.refuse hb .invalidSbox

/-- The engine starts at round 0 of any count, with DONE cleared and on a committed table (R111, R113). -/
theorem startEngine (h : d.Inv) (hdone : d.done = false) (hs : d.sbv = true) {op : EngOp} (hop : op ≠ .idle)
    (x : Block) (n : RoundCount) : (d.startEngine op x n).Inv where
  busy_iff := by simp [hop]
  count_le := by simp [BitVec.le_def]
  busy_not_done := fun _ => hdone
  busy_sbv := fun _ => hs
  lut := h.lut
  isbox_bijective := h.isbox_bijective

/-- The operation of an accepted command that is past the table check. -/
theorem commandOperation (h : d.Inv) (hb : d.busy = false) (hdone : d.done = false) {c : Cmd}
    (hs : c.readsLut = true → d.sbv = true) : (commandOperation c d).Inv := by
  cases c
  case nop => exact h.complete hb
  case sub | subi | kxor | rnd | irnd => exact h.deliver hb _
  case enc | enc2 | dec => exact h.startEngine hdone (hs rfl) (by decide) _ _
  case sbchk => exact h.checkSbox hb

/-- A store into a configuration register of an idle device; a half of SBOX clears SBV (R74, R75). -/
theorem configStored (h : d.Inv) (hb : d.busy = false) (he : ConfigStored d e) : e.Inv := by
  refine inv_of_idle (he.busy.trans hb) (he.engOp.trans (h.engOp_eq_idle hb)) (fun hsbv => ?_)
    (he.isbox ▸ h.isbox_bijective)
  obtain ⟨hs, hsbox⟩ := he.sbv hsbv
  simpa [Committed, hsbox, he.isbox] using h.lut hs

/-- A host transaction. -/
theorem execEffect (h : d.Inv) {i : Instr} (hx : ExecEffect i d e) : e.Inv := by
  cases hx with
  | unchanged he => exact he ▸ h
  | raised code _ he => exact he ▸ h.raise code
  | refused code _ _ hb he => exact he ▸ h.accept.refuse hb code
  | performed c _ hb hs he => exact he ▸ h.accept.commandOperation hb rfl hs
  | statusWritten v _ he => exact he ▸ h.writeStatus v
  | ctrlWritten v _ he => exact he ▸ h.withIe _
  | configured hb he => exact h.configStored hb he

/-- A round of the engine, forward or inverse: below ENG_N the count does not wrap (R165, R166). -/
theorem nextRound (h : d.Inv) (hlt : d.engI < d.engN) (x : Block) :
    ({ d with engX := x, engI := d.engI + 1#16 } : Device).Inv :=
  { h with count_le := fun _ => show d.engI + 1#16 ≤ d.engN by bv_omega }

theorem engineComplete (h : d.Inv) : (engineComplete d).Inv :=
  inv_of_idle rfl rfl h.lut h.isbox_bijective

theorem engineStep (h : d.Inv) : (engineStep d).Inv := by
  rcases engineStep_cases d with ⟨-, hlt, he⟩ | ⟨-, hlt, he⟩ | ⟨-, -, he⟩ | ⟨-, he⟩ <;> rw [he]
  · exact h.nextRound hlt _
  · exact h.nextRound hlt _
  · exact h.engineComplete
  · exact h

end Inv

end Device

/-- Every step keeps the device's part of the invariant. -/
theorem StepEffect.keeps_inv {s : State} {e : Device} (hx : StepEffect s e) (h : s.dev.Inv) : e.Inv := by
  cases hx with
  | unchanged he => exact he ▸ h
  | transaction _ _ hx => exact h.execEffect hx
  | engine _ _ he => exact he ▸ h.engineStep
  | reset _ _ he =>
    rcases he with he | he
    · exact he ▸ h
    · exact he ▸ Device.reset_inv

/-! ### While `rst_n = 0` (R231) -/

theorem exec_rstN {i : Instr} {s t : State} (h : exec i s = .next t) : t.rstN = s.rstN := by
  rcases exec_cases i s with ⟨f, hx⟩ | ⟨v, hx⟩ <;> cases hx.symm.trans h <;> rfl

/-- The host does not drive the pin. -/
theorem hostTurn_rstN {s t : State} (h : hostTurn s = .next t) : t.rstN = s.rstN := by
  rcases hostTurn_cases s with
    ⟨-, hx⟩ | ⟨p, rest, -, -, hx⟩ | ⟨_, _, -, -, hx⟩ | ⟨_, -, -, -, hx⟩ | ⟨_, -, -, hx⟩
  case inr.inl => exact exec_rstN (s := { s with host := rest }) (hx.symm.trans h)
  all_goals cases hx.symm.trans h; rfl

/-- The host's turn performs nothing while reset is asserted. -/
theorem hostTurn_dev_of_reset {s t : State} (hr : s.rstN = false) (h : hostTurn s = .next t) : t.dev = s.dev := by
  rcases hostTurn_cases s with
    ⟨-, hx⟩ | ⟨_, _, -, hr', -⟩ | ⟨_, _, -, -, hx⟩ | ⟨_, -, hr', -, -⟩ | ⟨_, -, -, hx⟩
  case inr.inl | inr.inr.inr.inl => simp [hr] at hr'
  all_goals cases hx.symm.trans h; rfl

theorem engineTurn_rstN (s : State) : (engineTurn s).rstN = s.rstN := by
  unfold engineTurn
  split <;> rfl

theorem engineTurn_of_reset {s : State} (hr : s.rstN = false) : engineTurn s = s := by
  simp [engineTurn, hr]

/-- After a step that ends with reset asserted: the pin has just taken the level 0, or it was 0 and SBC8 stood still. -/
theorem step_dev_of_reset {s t : State} (h : step s = .next t) (hr : t.rstN = false) :
    t.dev = Device.reset ∨ (s.rstN = false ∧ t.dev = s.dev) := by
  rcases step_cases s with ⟨-, hx⟩ | ⟨-, hx⟩ | ⟨level, -, hx⟩
  · have hhost := hx.symm.trans h
    have hs : s.rstN = false := (hostTurn_rstN hhost).symm.trans hr
    exact .inr ⟨hs, hostTurn_dev_of_reset (s := s.takeTurn) hs hhost⟩
  · cases hx.symm.trans h
    rw [engineTurn_rstN, takeTurn_rstN] at hr
    exact .inr ⟨hr, by simp [engineTurn_of_reset (s := s.takeTurn) hr]⟩
  · cases hx.symm.trans h
    obtain rfl : level = false := hr
    exact .inl rfl

end Sys2Proof.Machine

/-! ## The obligations of 41_sbox.md, and the invariant -/

section
open Sys2Proof Sys2Proof.Machine

/-- Settles O53: the device's part by the effect of the step, and the reset values by the pin that is held or falls. -/
theorem everyStepKeepsTheInvariant : Obligations.EveryStepKeepsTheInvariant := by
  unfold Obligations.EveryStepKeepsTheInvariant
  intro s t hinv h
  refine ⟨(step_effect h).keeps_inv hinv.dev, fun hr => ?_⟩
  rcases step_dev_of_reset h hr with hreset | ⟨hs, hkeep⟩
  · exact hreset
  · exact hkeep.trans (hinv.reset_held hs)

/-- Settles O54: reset is idle, on a table committed with its inverse, and the pin is released. -/
theorem resetStateHasTheInvariant : Obligations.ResetStateHasTheInvariant := by
  unfold Obligations.ResetStateHasTheInvariant
  exact ⟨Device.reset_inv, fun _ => rfl⟩

/-- Settles O28: with SBV = 1 the invariant says that SBOX is a bijection and ISBOX already its inverse. -/
theorem sbchkCommitsABijection : Obligations.SbchkCommitsABijection := by
  unfold Obligations.SbchkCommitsABijection
  refine ⟨encode_toInstr .sbchk, obeysLifecycle_of_command? (c := .sbchk) rfl (fun _ => rfl) 0x9,
    fun s hinv hb hs => ?_⟩
  have hx := exec_accepted (command?_toInstr .sbchk) hb nofun
  have hkeeps : commandOperation .sbchk s.dev.accept = s.dev.accept.complete := checkSbox_of_committed (hinv.lut hs) hs
  rw [hkeeps] at hx
  exact hx

/-- Settles O33: each lane of `sub` is a look-up of the same lane. -/
theorem substitutionActsOnEachNibble : Obligations.SubstitutionActsOnEachNibble := by
  unfold Obligations.SubstitutionActsOnEachNibble
  intro b T
  refine ⟨hiNibble_sub b T, loNibble_sub b T, fun b' h => ?_, fun b' h => ?_⟩
  · exact (hiNibble_sub b' T).trans ((congrArg (lookup T) h).trans (hiNibble_sub b T).symm)
  · exact (loNibble_sub b' T).trans ((congrArg (lookup T) h).trans (loNibble_sub b T).symm)

/-- Settles O34, by both forms of "pairwise distinct". -/
theorem bijectiveMeansEveryValueOnce : Obligations.BijectiveMeansEveryValueOnce := by
  unfold Obligations.BijectiveMeansEveryValueOnce
  exact fun T => ⟨bijective_iff_getElem_inj T, bijective_iff_count T⟩

/-- Settles O35, by `lookup_invert_eq_iff`. -/
theorem invertGivesTheUniqueIndex : Obligations.InvertGivesTheUniqueIndex := by
  unfold Obligations.InvertGivesTheUniqueIndex
  exact fun T h v i => lookup_invert_eq_iff h v i

/-- Settles O36: SBV = 1 makes ISBOX the inverse of SBOX, and what holds of nibbles holds of Blocks. -/
theorem substitutionRoundTrips : Obligations.SubstitutionRoundTrips := by
  unfold Obligations.SubstitutionRoundTrips
  intro d hinv hs
  obtain ⟨hbij, hisbox⟩ := hinv.lut hs
  rw [hisbox]
  have hleft := lookup_invert_lookup hbij
  have hright := lookup_lookup_invert hbij
  exact ⟨fun v => ⟨hleft v, hright v⟩, fun b => ⟨sub_sub_cancel hleft b, sub_sub_cancel hright b⟩⟩

/-- Settles O24: the operations of SUB and SUBI deliver the substitution of the source. -/
theorem subAndSubiDeliverTheSubstitution : Obligations.SubAndSubiDeliverTheSubstitution := by
  unfold Obligations.SubAndSubiDeliverTheSubstitution
  refine ⟨⟨encode_toInstr (.sub .din), encode_toInstr (.sub .dout), encode_toInstr (.subi .din),
    encode_toInstr (.subi .dout)⟩, fun src => ⟨?_, ?_⟩⟩
  · exact obeysLifecycle_of_command? (c := .sub src) rfl (fun d => by cases src <;> rfl) 0x1
  · exact obeysLifecycle_of_command? (c := .subi src) rfl (fun d => by cases src <;> rfl) 0x2

end

/-! ## The round commands: a round and its inverse, and the words and results of KXOR, RND and IRND -/

namespace Sys2Proof.Machine

/-- Acceptance clears ERR and DONE only, so the source operand is the one before it (R94). -/
@[simp] theorem source_accept (d : Device) (src : Src) : d.accept.source src = d.source src := by
  cases src <;> rfl

/-- Acceptance clears ERR and DONE only, so the key operand is the one before it (R96). -/
@[simp] theorem key_accept (d : Device) (k : KSel) : d.accept.key k = d.key k := by
  cases k <;> rfl

/-! ### A round and its inverse (R142) -/

theorem iround_round {d : Device} (h : ∀ b, sub (sub b d.sbox) d.isbox = b) (x k : Block) :
    d.iround (d.round x k) k = x := by
  rw [Device.iround, Device.round, h, BitVec.xor_assoc, BitVec.xor_self, BitVec.xor_zero]

theorem round_iround {d : Device} (h : ∀ b, sub (sub b d.isbox) d.sbox = b) (y k : Block) :
    d.round (d.iround y k) k = y := by
  rw [Device.round, Device.iround, BitVec.xor_assoc, BitVec.xor_self, BitVec.xor_zero, h]

/-! ### The lifecycles of the three commands, with either key (R143-R145) -/

section
variable (k : KSel) (src : Src)

theorem kxor_obeysLifecycle :
    ObeysLifecycle (.kxor k src) 0x3 false
      (fun d => { d with dout := d.source src ^^^ d.key k, err := .none, done := true }) :=
  obeysLifecycle_of_command? (c := .kxor k src) rfl
    (fun d => by rw [commandOperation, source_accept, key_accept]; rfl) 0x3

theorem rnd_obeysLifecycle :
    ObeysLifecycle (.rnd k src) 0x4 true
      (fun d => { d with dout := sub (d.source src ^^^ d.key k) d.sbox, err := .none, done := true }) :=
  obeysLifecycle_of_command? (c := .rnd k src) rfl
    (fun d => by rw [commandOperation, source_accept, key_accept]; rfl) 0x4

theorem irnd_obeysLifecycle :
    ObeysLifecycle (.irnd k src) 0x5 true
      (fun d => { d with dout := sub (d.source src) d.isbox ^^^ d.key k, err := .none, done := true }) :=
  obeysLifecycle_of_command? (c := .irnd k src) rfl
    (fun d => by rw [commandOperation, source_accept, key_accept]; rfl) 0x5

end

end Sys2Proof.Machine

/-! ## The obligations of 42_round.md -/

section
open Sys2Proof Sys2Proof.Machine

/-- Settles O37: the substitutions undo each other (O36), and so does the XOR with the same key. -/
theorem roundAndInverseRoundUndoEachOther : Obligations.RoundAndInverseRoundUndoEachOther := by
  unfold Obligations.RoundAndInverseRoundUndoEachOther
  intro d hinv hs x k
  obtain ⟨-, hblocks⟩ := substitutionRoundTrips d hinv hs
  exact ⟨iround_round (fun b => (hblocks b).1) x k, round_iround (fun b => (hblocks b).2) x k⟩

/-- Settles O25: KXOR reads no LUT, and delivers the source XOR the selected key. -/
theorem kxorDeliversTheXorWithTheKey : Obligations.KxorDeliversTheXorWithTheKey := by
  unfold Obligations.KxorDeliversTheXorWithTheKey
  refine ⟨⟨encode_toInstr (.kxor .key0 .din), encode_toInstr (.kxor .key1 .din), encode_toInstr (.kxor .key0 .dout),
    encode_toInstr (.kxor .key1 .dout)⟩, fun src => ⟨?_, ?_⟩⟩
  · exact kxor_obeysLifecycle .key0 src
  · exact kxor_obeysLifecycle .key1 src

/-- Settles O26: RND delivers a round of the source and IRND an inverse round, with the selected key. -/
theorem rndAndIrndDeliverARound : Obligations.RndAndIrndDeliverARound := by
  unfold Obligations.RndAndIrndDeliverARound
  refine ⟨⟨encode_toInstr (.rnd .key0 .din), encode_toInstr (.rnd .key1 .din), encode_toInstr (.rnd .key0 .dout),
    encode_toInstr (.rnd .key1 .dout), encode_toInstr (.irnd .key0 .din), encode_toInstr (.irnd .key1 .din),
    encode_toInstr (.irnd .key0 .dout), encode_toInstr (.irnd .key1 .dout)⟩, fun src => ⟨?_, ?_, ?_, ?_⟩⟩
  · exact rnd_obeysLifecycle .key0 src
  · exact rnd_obeysLifecycle .key1 src
  · exact irnd_obeysLifecycle .key0 src
  · exact irnd_obeysLifecycle .key1 src

end

/-! ## The cipher's loops: their congruence, the key schedule, and decryption as the inverse of encryption -/

namespace Sys2Proof.Machine

section
variable {d e : Device}

/-- The period-2 key schedule: KEY0 in the even rounds, KEY1 in the odd ones (R7, R160). -/
theorem roundKey_eq (d : Device) (i : Nat) : d.roundKey i = if i % 2 = 0 then d.key0 else d.key1 := by
  unfold Device.roundKey roundSel
  split <;> rfl

theorem encrypt_succ (d : Device) (p : Block) (n : Nat) :
    d.encrypt p (n + 1) = d.round (d.encrypt p n) (d.roundKey n) := rfl

theorem decrypt_succ (d : Device) (c : Block) (n : Nat) :
    d.decrypt c (n + 1) = d.decrypt (d.iround c (d.roundKey n)) n := rfl

theorem roundKey_congr (hkey0 : d.key0 = e.key0) (hkey1 : d.key1 = e.key1) (i : Nat) :
    d.roundKey i = e.roundKey i := by
  rw [roundKey_eq, roundKey_eq, hkey0, hkey1]

/-- `encrypt` reads SBOX and the two keys: `rfl` where only other fields differ. -/
theorem encrypt_congr (p : Block) (n : Nat)
    (h : d.sbox = e.sbox ∧ d.key0 = e.key0 ∧ d.key1 = e.key1 := by exact ⟨rfl, rfl, rfl⟩) :
    d.encrypt p n = e.encrypt p n := by
  obtain ⟨hsbox, hkey0, hkey1⟩ := h
  induction n with
  | zero => rfl
  | succ n ih =>
    rw [encrypt_succ, encrypt_succ, ih, roundKey_congr hkey0 hkey1, Device.round, Device.round, hsbox]

/-- `decrypt` reads ISBOX and the two keys: `rfl` where only other fields differ. -/
theorem decrypt_congr (c : Block) (n : Nat)
    (h : d.isbox = e.isbox ∧ d.key0 = e.key0 ∧ d.key1 = e.key1 := by exact ⟨rfl, rfl, rfl⟩) :
    d.decrypt c n = e.decrypt c n := by
  obtain ⟨hisbox, hkey0, hkey1⟩ := h
  induction n generalizing c with
  | zero => rfl
  | succ n ih =>
    rw [decrypt_succ, decrypt_succ, ih, roundKey_congr hkey0 hkey1, Device.iround, Device.iround, hisbox]

@[simp] theorem encrypt_accept (d : Device) (p : Block) (n : Nat) : d.accept.encrypt p n = d.encrypt p n :=
  encrypt_congr p n

@[simp] theorem decrypt_accept (d : Device) (c : Block) (n : Nat) : d.accept.decrypt c n = d.decrypt c n :=
  decrypt_congr c n

/-! ### Decryption undoes encryption (R172) -/

theorem decrypt_encrypt (h : ∀ x k, d.iround (d.round x k) k = x) (p : Block) (n : Nat) :
    d.decrypt (d.encrypt p n) n = p := by
  induction n with
  | zero => rfl
  | succ n ih => rw [encrypt_succ, decrypt_succ, h, ih]

theorem encrypt_decrypt (h : ∀ x k, d.round (d.iround x k) k = x) (c : Block) (n : Nat) :
    d.encrypt (d.decrypt c n) n = c := by
  induction n generalizing c with
  | zero => rfl
  | succ n ih => rw [decrypt_succ, encrypt_succ, ih, h]

/-! ### The period-2 structure (R170) -/

variable (d)

theorem roundKey_add_two (i : Nat) : d.roundKey (i + 2) = d.roundKey i := by
  rw [roundKey_eq, roundKey_eq, Nat.add_mod_right]

/-- The first two rounds split off: the schedule is the same two rounds later. -/
theorem encrypt_add_two (p : Block) (n : Nat) : d.encrypt p (n + 2) = d.encrypt (d.encrypt p 2) n := by
  induction n with
  | zero => rfl
  | succ n ih =>
    calc d.encrypt p (n + 2 + 1)
      _ = d.round (d.encrypt p (n + 2)) (d.roundKey (n + 2)) := encrypt_succ d p (n + 2)
      _ = d.round (d.encrypt (d.encrypt p 2) n) (d.roundKey n) := by rw [ih, roundKey_add_two]
      _ = d.encrypt (d.encrypt p 2) (n + 1) := (encrypt_succ d _ n).symm

/-- An even count iterates `T(x) = encrypt(x, 2)`. -/
theorem encrypt_two_mul (p : Block) (r : Nat) : d.encrypt p (2 * r) = (fun x => d.encrypt x 2)^[r] p := by
  induction r generalizing p with
  | zero => rfl
  | succ r ih => rw [Nat.mul_succ, encrypt_add_two, ih, Function.iterate_succ_apply]

/-- For an even count the last two rounds split off as well. -/
theorem encrypt_two_mul_add_two (p : Block) (r : Nat) :
    d.encrypt p (2 * r + 2) = d.encrypt (d.encrypt p (2 * r)) 2 := by
  rw [encrypt_two_mul d p r, ← Nat.mul_succ, encrypt_two_mul, Function.iterate_succ_apply']

end

/-- The device of the spec's counterexample to the even-count rule: the reset table, KEY0 = 0x46, KEY1 = 0x08 (R170). -/
def exampleDevice : Device := { Device.reset with key0 := 0x46#8, key1 := 0x08#8 }

/-! ## Instructions in a row: the chain of RND commands (R168) -/

theorem execAll_cons {i : Instr} {s t : State} (h : exec i s = .next t) (is : List Instr) :
    execAll (i :: is) s = execAll is t := by
  simp [execAll, h]

theorem execAll_append {is : List Instr} {s t : State} (h : execAll is s = .next t) (js : List Instr) :
    execAll (is ++ js) s = execAll js t := by
  induction is generalizing s with
  | nil =>
    cases h
    rfl
  | cons i is ih =>
    rcases exec_cases i s with ⟨f, hx⟩ | ⟨v, hx⟩ <;>
    · rw [execAll_cons hx] at h
      rw [List.cons_append, execAll_cons hx, ih h]

/-- RND past its checks (R144). -/
theorem exec_rnd {s : State} (hb : s.dev.busy = false) (hs : s.dev.sbv = true) (k : KSel) (src : Src) :
    exec (.rnd k src) s = .next { s with dev := { s.dev with
      dout := s.dev.round (s.dev.source src) (s.dev.key k), err := .none, done := true } } := by
  obtain ⟨-, -, haccepted, -⟩ := rnd_obeysLifecycle k src
  exact haccepted s hb fun _ => hs

/-- Each RND of the chain performs one more round on DOUT. -/
theorem execAll_rndChain {s : State} (hb : s.dev.busy = false) (hs : s.dev.sbv = true) (src : Src) (m : Nat) :
    execAll (.rnd .key0 src :: (List.range' 1 m).map (fun i => .rnd (roundSel i) .dout)) s =
      .next { s with dev := { s.dev with
        dout := s.dev.encrypt (s.dev.source src) (m + 1), err := .none, done := true } } := by
  induction m with
  | zero => exact execAll_cons (exec_rnd hb hs .key0 src) []
  | succ m ih =>
    rw [List.range'_1_concat, List.map_append, ← List.cons_append, execAll_append ih, Nat.add_comm 1 m]
    refine execAll_cons (exec_rnd ?_ ?_ (roundSel (m + 1)) .dout) []
    · exact hb
    · exact hs

end Sys2Proof.Machine

/-! ## The engine -/

namespace Sys2Proof.Machine

/-! ### Its three steps (R165-R167) -/

/-- Below the count ENG_I does not wrap. -/
theorem toNat_succ_of_lt {i n : RoundCount} (h : i < n) : (i + 1#16).toNat = i.toNat + 1 := by
  bv_omega

/-- The round an inverse step undoes, without wrapping. -/
theorem toNat_undoneRound {i n : RoundCount} (h : i < n) : (n - 1#16 - i).toNat = n.toNat - 1 - i.toNat := by
  bv_omega

section
variable {d : Device}

theorem engineStep_forward (hop : d.engOp = .enc) (hlt : d.engI < d.engN) : engineStep d = engineForward d := by
  simp [engineStep, hop, hlt]

theorem engineStep_inverse (hop : d.engOp = .dec) (hlt : d.engI < d.engN) : engineStep d = engineInverse d := by
  simp [engineStep, hop, hlt]

theorem engineStep_complete (hop : d.engOp ≠ .idle) (hn : d.engI = d.engN) : engineStep d = engineComplete d := by
  simp [engineStep, hop, hn, BitVec.lt_irrefl]

/-- Below the count the engine's step changes at most ENG_X and ENG_I. -/
theorem engineStep_of_lt (hlt : d.engI < d.engN) : ∃ x i, engineStep d = { d with engX := x, engI := i } := by
  rcases engineStep_cases d with ⟨-, -, h⟩ | ⟨-, -, h⟩ | ⟨-, hn, -⟩ | ⟨-, h⟩
  · exact ⟨_, _, h⟩
  · exact ⟨_, _, h⟩
  · exact absurd hn (BitVec.ne_of_lt hlt)
  · exact ⟨d.engX, d.engI, h⟩

/-- ENG_X and ENG_I are hidden (R37). -/
theorem busRead_withRound (d : Device) (x : Block) (i : RoundCount) (r : Reg) :
    busRead r { d with engX := x, engI := i } = busRead r d := by
  cases r <;> rfl

end

/-! ### A computation in flight

`Computing r n` is kept by every forward and inverse step, and by whatever changes only the flags. -/

namespace Device
variable {d : Device} {p c r : Block} {n : RoundCount}

theorem Encrypting.forward (h : d.Encrypting p n) (hlt : d.engI < n) : (engineForward d).Encrypting p n where
  busy := h.busy
  op := h.op
  count := h.count
  le := show d.engI + 1#16 ≤ n by bv_omega
  block :=
    calc d.round d.engX (d.roundKey d.engI.toNat)
      _ = d.encrypt p (d.engI.toNat + 1) := by rw [h.block, encrypt_succ]
      _ = d.encrypt p (d.engI + 1#16).toNat := by rw [toNat_succ_of_lt hlt]
      _ = (engineForward d).encrypt p (d.engI + 1#16).toNat := encrypt_congr _ _

theorem Decrypting.inverse (h : d.Decrypting c n) (hlt : d.engI < n) : (engineInverse d).Decrypting c n where
  busy := h.busy
  op := h.op
  count := h.count
  le := show d.engI + 1#16 ≤ n by bv_omega
  block := by
    have hround : (d.engN - 1#16 - d.engI).toNat = n.toNat - (d.engI + 1#16).toNat := by
      rw [h.count, toNat_undoneRound hlt, toNat_succ_of_lt hlt, Nat.sub_sub, Nat.add_comm]
    have hleft : n.toNat - d.engI.toNat = n.toNat - (d.engI + 1#16).toNat + 1 := by bv_omega
    calc (engineInverse d).decrypt (d.iround d.engX (d.roundKey (d.engN - 1#16 - d.engI).toNat))
          (n.toNat - (d.engI + 1#16).toNat)
      _ = d.decrypt (d.iround d.engX (d.roundKey (d.engN - 1#16 - d.engI).toNat)) (n.toNat - (d.engI + 1#16).toNat) :=
          decrypt_congr _ _
      _ = d.decrypt d.engX (n.toNat - d.engI.toNat) := by rw [hround, hleft, decrypt_succ]
      _ = d.decrypt c n.toNat := h.block
      _ = (engineInverse d).decrypt c n.toNat := (decrypt_congr _ _).symm

namespace Computing

/-- What both kinds of computation have in common. -/
theorem running (h : d.Computing r n) : d.busy = true ∧ d.engOp ≠ .idle ∧ d.engN = n ∧ d.engI ≤ n := by
  rcases h with ⟨_, h, -⟩ | ⟨_, h, -⟩ <;> exact ⟨h.busy, by simp [h.op], h.count, h.le⟩

/-- IE, DONE and ERR take no part in a computation. -/
theorem withFlags (h : d.Computing r n) (ie done : Bool) (err : ErrCode) :
    ({ d with ie := ie, done := done, err := err } : Device).Computing r n := by
  rcases h with ⟨p, hrun, hr⟩ | ⟨c, hrun, hr⟩
  · refine .inl ⟨p, { hrun with block := ?_ }, ?_⟩
    · exact hrun.block.trans (encrypt_congr _ _)
    · exact hr.trans (encrypt_congr _ _)
  · refine .inr ⟨c, { hrun with block := ?_ }, ?_⟩
    · exact (decrypt_congr _ _).trans (hrun.block.trans (decrypt_congr _ _))
    · exact hr.trans (decrypt_congr _ _)

/-- Below the count the engine's step is one more round of the same computation. -/
theorem engineStep_round (h : d.Computing r n) (hlt : d.engI < n) :
    ∃ x, engineStep d = { d with engX := x, engI := d.engI + 1#16 } ∧ (engineStep d).Computing r n := by
  rcases h with ⟨p, hrun, hr⟩ | ⟨c, hrun, hr⟩
  · rw [engineStep_forward hrun.op (hrun.count ▸ hlt)]
    exact ⟨_, rfl, .inl ⟨p, hrun.forward hlt, hr.trans (encrypt_congr _ _)⟩⟩
  · rw [engineStep_inverse hrun.op (hrun.count ▸ hlt)]
    exact ⟨_, rfl, .inr ⟨c, hrun.inverse hlt, hr.trans (decrypt_congr _ _)⟩⟩

/-- At the count ENG_X is the result. -/
theorem engX_eq (h : d.Computing r n) (hn : d.engI = n) : d.engX = r := by
  rcases h with ⟨p, hrun, rfl⟩ | ⟨c, hrun, rfl⟩
  · rw [hrun.block, hn]
  · simpa [hn, Device.decrypt] using hrun.block

/-- At the count the engine's step delivers the result (R167). -/
theorem engineStep_delivers (h : d.Computing r n) (hn : d.engI = n) :
    engineStep d = { d with dout := r, engOp := .idle, busy := false, done := true } := by
  obtain ⟨-, hop, hcount, -⟩ := h.running
  rw [engineStep_complete hop (hn.trans hcount.symm), engineComplete, h.engX_eq hn]

end Computing

/-- The engine just started on `p` computes `encrypt(p, n)` (R162, R163). -/
theorem startEngine_enc_computing (d : Device) (p : Block) (n : RoundCount) :
    (d.startEngine .enc p n).Computing (d.encrypt p n.toNat) n :=
  .inl ⟨p, { busy := rfl, op := rfl, count := rfl, le := by simp [BitVec.le_def], block := rfl },
    encrypt_congr _ _⟩

/-- The engine just started on `c` computes `decrypt(c, n)` (R164). -/
theorem startEngine_dec_computing (d : Device) (c : Block) (n : RoundCount) :
    (d.startEngine .dec c n).Computing (d.decrypt c n.toNat) n :=
  .inr ⟨c, { busy := rfl, op := rfl, count := rfl, le := by simp [BitVec.le_def], block := rfl },
    decrypt_congr _ _⟩

end Device

/-! ### The host and the engine in turn (R78, R81) -/

/-- While BUSY = 1 a transaction changes at most IE, DONE and ERR (R78). -/
theorem ExecEffect.changes_flags_only {i : Instr} {d e : Device} (hx : ExecEffect i d e) (hb : d.busy = true) :
    ∃ ie done err, e = { d with ie := ie, done := done, err := err } := by
  cases hx with
  | unchanged he => exact ⟨d.ie, d.done, d.err, he⟩
  | raised code _ he => exact ⟨d.ie, d.done, code, he⟩
  | statusWritten v _ he => exact ⟨d.ie, _, d.err, he.trans (writeStatus_eq v d)⟩
  | ctrlWritten v _ he => exact ⟨_, d.done, d.err, he⟩
  | refused _ _ _ hidle _ | performed _ _ hidle _ _ | configured hidle _ => simp [hb] at hidle

section
variable {s t : State}

/-- The host's turn while the engine runs. -/
theorem step_dev_of_host_turn (ht : s.turn = .host) (hb : s.dev.busy = true) (h : step s = .next t) :
    ∃ ie done err, t.dev = { s.dev with ie := ie, done := done, err := err } := by
  cases step_effect h with
  | unchanged he => exact ⟨s.dev.ie, s.dev.done, s.dev.err, he⟩
  | transaction i _ hx => exact hx.changes_flags_only hb
  | engine ht' _ _ | reset _ ht' _ => simp [ht] at ht'

/-- The engine's turn. -/
theorem step_of_engine_turn (ht : s.turn = .engine) (hr : s.rstN = true) :
    step s = .next { s with sched := s.sched.tail, dev := engineStep s.dev } := by
  simp [step, ht, engineTurn, hr, State.onDev, State.takeTurn]

theorem step_dev_of_engine_turn (ht : s.turn = .engine) (hr : s.rstN = true) (h : step s = .next t) :
    t.dev = engineStep s.dev := by
  rw [step_of_engine_turn ht hr] at h
  cases h
  rfl

/-- A pin that is 1 and stays 1 changes nothing. -/
theorem step_dev_of_rst_turn {level : Bool} (ht : s.turn = .rst level) (hr : s.rstN = true) (hr' : t.rstN = true)
    (h : step s = .next t) : t.dev = s.dev := by
  rw [step, ht] at h
  cases h
  obtain rfl : level = true := hr'
  simp [hr]

/-- A turn of the host or the engine is a step that takes the turn and leaves the pin. -/
theorem exists_step_of_turn (hturn : ∀ level, s.turn ≠ .rst level) :
    ∃ t, step s = .next t ∧ t.rstN = s.rstN ∧ t.sched = s.sched.tail := by
  rcases step_cases s with ⟨-, hx⟩ | ⟨-, hx⟩ | ⟨level, ht, -⟩
  · rw [hx]
    rcases hostTurn_cases s.takeTurn with
      ⟨-, hx⟩ | ⟨p, rest, -, -, hx⟩ | ⟨_, _, -, -, hx⟩ | ⟨_, -, -, -, hx⟩ | ⟨_, -, -, hx⟩
    case inr.inl =>
      rcases exec_cases p.presented { s.takeTurn with host := rest } with ⟨f, hp⟩ | ⟨v, hp⟩ <;>
      exact ⟨_, hx.trans hp, rfl, rfl⟩
    all_goals exact ⟨_, hx, rfl, rfl⟩
  · refine ⟨_, hx, engineTurn_rstN _, ?_⟩
    unfold engineTurn
    split <;> rfl
  · exact absurd ht (hturn level)

end

/-! ### Runs (R168) -/

theorem Device.sameConfig.trans {d e f : Device} (hde : d.sameConfig e) (hef : e.sameConfig f) : d.sameConfig f := by
  obtain ⟨hkey0, hkey1, hsbox, hisbox, hrounds⟩ := hde
  rw [Device.sameConfig, hkey0, hkey1, hsbox, hisbox, hrounds]
  exact hef

/-- SBC8 after the completion of a computation of `r` in `n` rounds (R167). -/
def Device.delivered (r : Block) (n : RoundCount) (d : Device) : Device :=
  { d with engX := r, engI := n, dout := r, engOp := .idle, busy := false, done := true }

theorem coreRun_add {M : Host.Core} {j : Nat} {s t : M.State} (h : M.run j s = .next t) (k : Nat) :
    M.run (j + k) s = M.run k t := by
  induction j generalizing s with
  | zero =>
    cases h
    rw [Nat.zero_add]
  | succ j ih =>
    rw [Nat.succ_add]
    cases hstep : M.step s with
    | next u =>
      rw [coreRun_succ hstep] at h ⊢
      exact ih h
    | fault r | refused r => simp [Host.Core.run, hstep] at h

theorem runSteps_add {j : Nat} {s t : State} (h : runSteps j s = .next t) (k : Nat) :
    runSteps (j + k) s = runSteps k t :=
  coreRun_add (M := core) h k

section
variable {r : Block} {n : RoundCount} {s : State}

/-- A turn of the host, or of the engine below the count: the computation goes on, a round further if the engine
moved. -/
theorem step_while_computing {turn : Turn} (hr : s.rstN = true) (h : s.dev.Computing r n) (hturn : s.turn = turn)
    (hrst : ∀ level, turn ≠ .rst level) (hcount : s.dev.engI.toNat + [turn].count .engine ≤ n.toNat) :
    ∃ u, step s = .next u ∧ u.rstN = true ∧ u.sched = s.sched.tail ∧ u.dev.Computing r n ∧ u.dev.dout = s.dev.dout ∧
      u.dev.engI.toNat = s.dev.engI.toNat + [turn].count .engine := by
  subst hturn
  obtain ⟨hb, -, -, -⟩ := h.running
  obtain ⟨u, hstep, hur, husched⟩ := exists_step_of_turn hrst
  refine ⟨u, hstep, hur.trans hr, husched, ?_⟩
  cases hturn : s.turn with
  | rst level => exact absurd hturn (hrst level)
  | host =>
    obtain ⟨ie, done, err, hdev⟩ := step_dev_of_host_turn hturn hb hstep
    rw [hdev]
    exact ⟨h.withFlags ie done err, rfl, rfl⟩
  | engine =>
    rw [hturn, List.count_singleton_self] at hcount
    have hlt : s.dev.engI < n := by bv_omega
    obtain ⟨x, hround, hcomp⟩ := h.engineStep_round hlt
    rw [step_dev_of_engine_turn hturn hr hstep]
    refine ⟨hcomp, ?_⟩
    rw [hround]
    exact ⟨rfl, toNat_succ_of_lt hlt⟩

/-- A run over `turns` without reset in which the engine does not reach its completion: it computes on, and has
performed as many rounds as it had turns. -/
theorem runSteps_while_computing {turns rest : List Turn} (hr : s.rstN = true) (h : s.dev.Computing r n)
    (hsched : s.sched = turns ++ rest) (hrst : ∀ level, Turn.rst level ∉ turns)
    (hcount : s.dev.engI.toNat + turns.count .engine ≤ n.toNat) :
    ∃ t, runSteps turns.length s = .next t ∧ t.rstN = true ∧ t.sched = rest ∧ t.dev.Computing r n ∧
      t.dev.dout = s.dev.dout ∧ t.dev.engI.toNat = s.dev.engI.toNat + turns.count .engine := by
  induction turns generalizing s with
  | nil => exact ⟨s, rfl, hr, hsched, h, rfl, rfl⟩
  | cons turn turns ih =>
    rw [← List.singleton_append, List.count_append] at hcount ⊢
    obtain ⟨u, hstep, hur, husched, hucomp, hudout, huengI⟩ := step_while_computing (turn := turn) hr h
      (by simp [State.turn, hsched]) (fun level he => hrst level (he ▸ .head _)) (by omega)
    obtain ⟨t, hrun, htr, htsched, htcomp, htdout, htengI⟩ := ih hur hucomp (by simp [husched, hsched])
      (fun level hmem => hrst level (.tail _ hmem)) (by omega)
    exact ⟨t, (runSteps_succ hstep _).trans hrun, htr, htsched, htcomp, htdout.trans hudout, by omega⟩

/-- With the interleaving used up a running engine moves. -/
theorem turn_eq_engine_of_computing (hr : s.rstN = true) (hs : s.sched = []) (h : s.dev.Computing r n) :
    s.turn = .engine := by
  obtain ⟨-, hop, hcount, hle⟩ := h.running
  simp [State.turn, hs, defaultTurn, hr, engineEnabled, hop, hcount, hle]

theorem step_of_computing (hr : s.rstN = true) (hs : s.sched = []) (h : s.dev.Computing r n) :
    step s = .next { s with dev := engineStep s.dev } := by
  rw [step_of_engine_turn (turn_eq_engine_of_computing hr hs h) hr]
  simp [hs]

/-- With the interleaving used up the engine performs its remaining `k` rounds and delivers the result. -/
theorem runSteps_until_delivery (hr : s.rstN = true) (hs : s.sched = []) (h : s.dev.Computing r n) {k : Nat}
    (hk : s.dev.engI.toNat + k = n.toNat) :
    runSteps (k + 1) s = .next { s with dev := s.dev.delivered r n } := by
  induction k generalizing s with
  | zero =>
    have hn : s.dev.engI = n := BitVec.eq_of_toNat_eq hk
    rw [runSteps_succ (step_of_computing hr hs h), h.engineStep_delivers hn, ← h.engX_eq hn, ← hn]
    rfl
  | succ k ih =>
    have hlt : s.dev.engI < n := by bv_omega
    obtain ⟨x, hround, hcomp⟩ := h.engineStep_round hlt
    have hk' : (s.dev.engI + 1#16).toNat + k = n.toNat := by rw [toNat_succ_of_lt hlt]; omega
    rw [runSteps_succ (step_of_computing hr hs h), hround]
    rw [hround] at hcomp
    exact ih hr hs hcomp hk'

/-- STATUS after a command that completed without an error, on a committed table. -/
theorem statusWord_completed {d : Device} (herr : d.err = .none) (hs : d.sbv = true) (hdone : d.done = true)
    (hb : d.busy = false) : d.statusWord = 0x00000006#32 := by
  rw [Device.statusWord, herr, hs, hdone, hb]
  rfl

/-- With the interleaving used up and the engine idle, `WAIT` is one step. -/
theorem step_wait_of_idle {rest : List HostLine} {w : Word} (hr : s.rstN = true) (hs : s.sched = [])
    (hb : s.dev.busy = false) (hop : s.dev.engOp = .idle) (hh : s.host = .wait :: rest) (hw : s.dev.statusWord = w) :
    step s = .next { s with host := rest, reads := s.reads ++ [w] } := by
  rw [← hw, step_wait (turn_eq_host_of_idle hs hop) hh, pollWait_of_idle (s := s.takeTurn) rest hr hb]
  simp [State.takeTurn, hs]

/-- From `s` to `t` the host has issued the lines before `rest`, the last of them a `WAIT`, and a command has delivered
`r` without an error. -/
structure CipherCompleted (r : Block) (rest : List HostLine) (s t : State) : Prop where
  rstN : t.rstN = true
  sched : t.sched = []
  host : t.host = rest
  reads : t.reads = s.reads ++ [0x00000006#32]
  dout : t.dev.dout = r
  done : t.dev.done = true
  err : t.dev.err = .none
  busy : t.dev.busy = false
  engOp : t.dev.engOp = .idle
  sbv : t.dev.sbv = true
  config : t.dev.sameConfig s.dev

/-- A command that starts the engine, and the `WAIT` after it, under the default interleaving: the acceptance, the
engine's steps, and the read of STATUS that ends the line. -/
theorem runSteps_cipherCommand_wait {c : Cmd} {op : EngOp} {x : Block} {rest : List HostLine} (hr : s.rstN = true)
    (hs : s.sched = []) (hb : s.dev.busy = false) (hop : s.dev.engOp = .idle) (hsbv : s.dev.sbv = true)
    (hh : s.host = cmdLine c :: .wait :: rest)
    (hstart : commandOperation c s.dev.accept = s.dev.accept.startEngine op x n)
    (hcomp : (s.dev.accept.startEngine op x n).Computing r n) :
    ∃ t, runSteps (n.toNat + 3) s = .next t ∧ CipherCompleted r rest s t := by
  have haccept := (runCommand_accepted (needsLut := c.readsLut) hb fun _ => hsbv).trans hstart
  have hdeliver := runSteps_until_delivery (k := n.toNat)
    (s := { s with host := .wait :: rest, dev := s.dev.accept.startEngine op x n }) hr hs hcomp (Nat.zero_add _)
  have hwait := step_wait_of_idle
    (s := { s with host := .wait :: rest, dev := (s.dev.accept.startEngine op x n).delivered r n })
    hr hs rfl rfl rfl (statusWord_completed rfl hsbv rfl rfl)
  refine ⟨{ s with
    host := rest
    dev := (s.dev.accept.startEngine op x n).delivered r n
    reads := s.reads ++ [0x00000006#32] }, ?_,
    ⟨hr, hs, rfl, rfl, rfl, rfl, rfl, rfl, rfl, hsbv, ⟨rfl, rfl, rfl, rfl, rfl⟩⟩⟩
  calc runSteps (n.toNat + 1 + 1 + 1) s
    _ = runSteps (n.toNat + 1 + 1) { s with host := .wait :: rest, dev := s.dev.accept.startEngine op x n } :=
        runSteps_succ_of_idle hs hop hr hh (decode_command_encodeCommand c) (exec_of_command? (command?_toInstr c))
          haccept
    _ = runSteps 1 { s with host := .wait :: rest, dev := (s.dev.accept.startEngine op x n).delivered r n } :=
        runSteps_add hdeliver 1
    _ = _ := runSteps_succ hwait 0

end

end Sys2Proof.Machine

/-! ## The obligations of 43_engine.md -/

section
open Sys2Proof Sys2Proof.Machine

/-- Settles O46, by whose turn it is: the host leaves all but the flags, the engine performs one more round or delivers,
and the pin stays at 1. -/
theorem engineDeliversItsResultUnderEveryInterleaving : Obligations.EngineDeliversItsResultUnderEveryInterleaving := by
  unfold Obligations.EngineDeliversItsResultUnderEveryInterleaving
  intro r n s t hr hr' h hstep
  obtain ⟨hb, -, -, hle⟩ := h.running
  cases hturn : s.turn with
  | host =>
    obtain ⟨ie, done, err, hdev⟩ := step_dev_of_host_turn hturn hb hstep
    rw [hdev]
    exact .inl ⟨h.withFlags ie done err, ⟨rfl, rfl, rfl, rfl, rfl⟩, rfl⟩
  | engine =>
    rw [step_dev_of_engine_turn hturn hr hstep]
    by_cases hn : s.dev.engI = n
    · rw [h.engineStep_delivers hn]
      exact .inr ⟨rfl, hn, rfl, rfl, rfl, rfl, ⟨rfl, rfl, rfl, rfl, rfl⟩, rfl⟩
    · obtain ⟨x, hround, hcomp⟩ := h.engineStep_round (BitVec.lt_of_le_ne hle hn)
      refine .inl ⟨hcomp, ?_⟩
      rw [hround]
      exact ⟨⟨rfl, rfl, rfl, rfl, rfl⟩, rfl⟩
  | rst level =>
    rw [step_dev_of_rst_turn hturn hr hr' hstep]
    exact .inl ⟨h, ⟨rfl, rfl, rfl, rfl, rfl⟩, rfl⟩

/-- Settles O39: round by round, since a round and its inverse undo each other (O37). -/
theorem encryptIsAPermutationWithInverseDecrypt : Obligations.EncryptIsAPermutationWithInverseDecrypt := by
  unfold Obligations.EncryptIsAPermutationWithInverseDecrypt
  intro d hinv hs n
  have hround := roundAndInverseRoundUndoEachOther d hinv hs
  have hleft (p : Block) : d.decrypt (d.encrypt p n) n = p := decrypt_encrypt (fun x k => (hround x k).1) p n
  have hright (c : Block) : d.encrypt (d.decrypt c n) n = c := encrypt_decrypt (fun x k => (hround x k).2) c n
  exact ⟨fun p => ⟨hleft p, hright p⟩,
    Function.bijective_iff_has_inverse.2 ⟨fun c => d.decrypt c n, hleft, hright⟩⟩

/-- Settles O40: two rounds split off at the front for every count, at the end for an even one. -/
theorem periodTwoStructure : Obligations.PeriodTwoStructure := by
  unfold Obligations.PeriodTwoStructure
  refine ⟨fun d p => ⟨encrypt_two_mul d p, encrypt_add_two d p, fun n hn => ?_, ?_⟩,
    fun d hsbox hkey0 hkey1 => ?_⟩
  · obtain ⟨r, rfl⟩ : 2 ∣ n := Nat.dvd_of_mod_eq_zero hn
    exact encrypt_two_mul_add_two d p r
  · rintro r q rfl
    rw [← encrypt_add_two, encrypt_two_mul_add_two]
  · simp only [encrypt_congr (e := exampleDevice) _ _ ⟨hsbox, hkey0, hkey1⟩]
    decide

/-- Settles O41: every round uses the one key. -/
theorem equalKeysGiveTheLengthOneSchedule : Obligations.EqualKeysGiveTheLengthOneSchedule := by
  unfold Obligations.EqualKeysGiveTheLengthOneSchedule
  intro d k hkey0 hkey1 p n
  induction n with
  | zero => rfl
  | succ n ih =>
    rw [encrypt_succ, roundKey_eq, hkey0, hkey1, ite_self, ih, Function.iterate_succ_apply', Device.round]

/-- Settles O42, by `execAll_rndChain`. -/
theorem chainOfRoundsComputesEncrypt : Obligations.ChainOfRoundsComputesEncrypt := by
  unfold Obligations.ChainOfRoundsComputesEncrypt
  intro s src n hb hs hn
  obtain ⟨m, rfl⟩ := Nat.exists_eq_add_of_le' hn
  exact execAll_rndChain hb hs src m

/-- Settles O45: a transaction changes at most the flags of a busy device. -/
theorem hostCannotDisturbARunningEngine : Obligations.HostCannotDisturbARunningEngine := by
  unfold Obligations.HostCannotDisturbARunningEngine
  intro i s t hb h
  obtain ⟨ie, done, err, hdev⟩ := (exec_effect h).changes_flags_only hb
  rw [hdev]
  exact ⟨rfl, rfl, rfl, rfl, ⟨rfl, rfl, rfl, rfl, rfl⟩, rfl, rfl, rfl, hb⟩

/-- Settles O47: acceptance changes neither the source nor what the ciphers read. -/
theorem acceptedEngineCommandComputesItsCipher : Obligations.AcceptedEngineCommandComputesItsCipher := by
  unfold Obligations.AcceptedEngineCommandComputesItsCipher
  intro s src hb hs
  have haccept (c : Cmd) := exec_accepted (s := s) (command?_toInstr c) hb fun _ => hs
  have hencrypt (n : RoundCount) := s.dev.accept.startEngine_enc_computing (s.dev.accept.source src) n
  have hdecrypt (n : RoundCount) := s.dev.accept.startEngine_dec_computing (s.dev.accept.source src) n
  simp only [source_accept, encrypt_accept, decrypt_accept] at hencrypt hdecrypt
  exact ⟨⟨_, haccept (.enc src), hencrypt _⟩, ⟨_, haccept (.enc2 src), hencrypt 2#16⟩,
    ⟨_, haccept (.dec src), hdecrypt _⟩⟩

/-- Settles O48: the turns before the last are `runSteps_while_computing`, and the last is the delivery. -/
theorem engineCompletesAfterExactlyCountPlusOneSteps : Obligations.EngineCompletesAfterExactlyCountPlusOneSteps := by
  unfold Obligations.EngineCompletesAfterExactlyCountPlusOneSteps
  intro r n s turns rest hr h hsched hrst
  obtain ⟨-, -, -, hle⟩ := h.running
  have hle := BitVec.le_def.1 hle
  refine ⟨fun hcount => ?_, fun hcount hlast => ?_⟩
  · obtain ⟨t, hrun, -, -, hcomp, hdout, hengI⟩ := runSteps_while_computing hr h hsched hrst (by omega)
    exact ⟨t, hrun, hcomp, hdout, hengI⟩
  · obtain ⟨before, rfl⟩ := List.getLast?_eq_some_iff.1 hlast
    rw [List.count_append, List.count_singleton_self] at hcount
    rw [List.append_assoc] at hsched
    obtain ⟨t, hrun, htr, htsched, hcomp, -, hengI⟩ := runSteps_while_computing hr h hsched
      (fun level hmem => hrst level (List.mem_append_left _ hmem)) (by omega)
    have hn : t.dev.engI = n := BitVec.eq_of_toNat_eq (by omega)
    have hturn : t.turn = .engine := by simp [State.turn, htsched]
    have hstep := step_of_engine_turn hturn htr
    rw [hcomp.engineStep_delivers hn] at hstep
    rw [List.length_append, runSteps_add hrun, List.length_singleton, runSteps_succ hstep]
    exact ⟨_, rfl, rfl, rfl, rfl, rfl⟩

/-- Settles O49: ENC and its WAIT deliver `encrypt`, DEC and its WAIT `decrypt` of it, which is the source (O39). -/
theorem encryptThenDecryptProgramRestoresTheSource : Obligations.EncryptThenDecryptProgramRestoresTheSource := by
  unfold Obligations.EncryptThenDecryptProgramRestoresTheSource
  intro s src hinv hr hb hs hsched hh
  have hop := hinv.dev.engOp_eq_idle hb
  obtain ⟨t, hfirst, ht⟩ := runSteps_cipherCommand_wait (n := s.dev.rounds) hr hsched hb hop hs hh rfl
    (s.dev.accept.startEngine_enc_computing (s.dev.accept.source src) s.dev.rounds)
  obtain ⟨u, hsecond, hu⟩ := runSteps_cipherCommand_wait (n := t.dev.rounds) (c := .dec .dout) ht.rstN ht.sched ht.busy
    ht.engOp ht.sbv ht.host rfl (t.dev.accept.startEngine_dec_computing (t.dev.accept.source .dout) t.dev.rounds)
  obtain ⟨hkey0, hkey1, hsbox, hisbox, hrounds⟩ := ht.config
  rw [hrounds] at hsecond
  refine ⟨u, ?run, ⟨hu.host, hu.busy, hu.engOp⟩, ?dout, hu.done, hu.err, hu.config.trans ht.config, ?reads⟩
  case run =>
    have hlength : 2 * s.dev.rounds.toNat + 6 = s.dev.rounds.toNat + 3 + (s.dev.rounds.toNat + 3) := by omega
    rw [hlength, runSteps_add hfirst, hsecond]
  case dout =>
    calc u.dev.dout
      _ = t.dev.accept.decrypt t.dev.dout t.dev.rounds.toNat := hu.dout
      _ = s.dev.decrypt t.dev.dout s.dev.rounds.toNat := by
          rw [hrounds, decrypt_accept, decrypt_congr _ _ ⟨hisbox, hkey0, hkey1⟩]
      _ = s.dev.decrypt (s.dev.encrypt (s.dev.source src) s.dev.rounds.toNat) s.dev.rounds.toNat := by
          rw [ht.dout, source_accept, encrypt_accept]
      _ = s.dev.source src := ((encryptIsAPermutationWithInverseDecrypt s.dev hinv.dev hs _).1 _).1
  case reads => rw [hu.reads, ht.reads, List.append_assoc, List.singleton_append]

/-- Settles O29: each command's operation loads the engine after acceptance. -/
theorem engineCommandsStartTheEngine : Obligations.EngineCommandsStartTheEngine := by
  unfold Obligations.EngineCommandsStartTheEngine
  refine fun src => ⟨?_, ?_, ?_⟩
  · exact obeysLifecycle_of_command? (c := .enc src) rfl (fun d => by rw [commandOperation, source_accept]; rfl) 0x6
  · exact obeysLifecycle_of_command? (c := .enc2 src) rfl (fun d => by rw [commandOperation, source_accept]; rfl) 0x7
  · exact obeysLifecycle_of_command? (c := .dec src) rfl (fun d => by rw [commandOperation, source_accept]; rfl) 0x8

/-- Settles O38: the recursion of the two loops, with the key of the round's parity. -/
theorem cipherLoops : Obligations.CipherLoops := by
  unfold Obligations.CipherLoops
  intro d x n
  have hkey := roundKey_eq d n
  refine ⟨rfl, rfl, fun hn => ?_, fun hn => ?_⟩ <;>
  · rw [encrypt_succ, decrypt_succ, hkey]
    simp [hn, Device.round, Device.iround]

/-- Settles O43: a round of the engine with the key of the round's parity, which no register shows. -/
theorem engineStepsPerformOneRound : Obligations.EngineStepsPerformOneRound := by
  unfold Obligations.EngineStepsPerformOneRound
  intro s hturn hr hlt
  rw [step_of_engine_turn hturn hr, ← roundKey_eq, ← roundKey_eq, ← toNat_undoneRound hlt]
  refine ⟨fun hop => ?_, fun hop => ?_, toNat_succ_of_lt hlt, ?_⟩
  · rw [engineStep_forward hop hlt, engineForward]
  · rw [engineStep_inverse hop hlt, engineInverse]
  · rintro t ⟨⟩ r
    obtain ⟨x, i, he⟩ := engineStep_of_lt hlt
    exact he ▸ busRead_withRound s.dev x i r

/-- Settles O44: at the count the engine's step is its completion. -/
theorem engineCompletionDeliversTheBlock : Obligations.EngineCompletionDeliversTheBlock := by
  unfold Obligations.EngineCompletionDeliversTheBlock
  intro s hturn hr hop hn
  rw [step_of_engine_turn hturn hr, engineStep_complete hop hn, engineComplete]

end

/-! ## Errors: the order of the checks, the clearing of ERR, and a machine that never stops -/

namespace Sys2Proof.Machine

/-- A transaction that clears ERR is an accepted command: whatever else writes ERR writes an error's code (R205, R207). -/
theorem ExecEffect.err_cleared_cause {i : Instr} {d e : Device} (hx : ExecEffect i d e) (hd : d.err ≠ .none)
    (he : e.err = .none) : i.presentsCommand = true ∧ d.busy = false := by
  cases hx with
  | unchanged h | ctrlWritten _ _ h => exact absurd (by simpa [h] using he) hd
  | statusWritten _ _ h => exact absurd (by simpa [h, writeStatus_eq] using he) hd
  | configured _ h => exact absurd (h.err.symm.trans he) hd
  | raised _ hcode h => exact absurd (by simpa [h] using he) hcode
  | refused _ _ hp hb _ => exact ⟨hp, hb⟩
  | performed _ hc hb _ _ => exact ⟨presentsCommand_of_command? hc, hb⟩

@[simp] theorem engineStep_err (d : Device) : (engineStep d).err = d.err := by
  rcases engineStep_cases d with ⟨-, -, h⟩ | ⟨-, -, h⟩ | ⟨-, -, h⟩ | ⟨-, h⟩ <;> simp [h]

/-- The engine's turn leaves ERR, reset asserted or not. -/
@[simp] theorem engineTurn_err (s : State) : (engineTurn s).dev.err = s.dev.err := by
  unfold engineTurn
  split
  · exact engineStep_err s.dev
  · rfl

theorem step_err_of_engine_turn {s t : State} (ht : s.turn = .engine) (h : step s = .next t) :
    t.dev.err = s.dev.err := by
  rw [step, ht] at h
  cases h
  exact engineTurn_err s.takeTurn

/-- A transaction is performed or recorded as an error, and never refused by the machine (R87, R200). -/
theorem exists_exec_eq_next (i : Instr) (s : State) : ∃ t, exec i s = .next t := by
  rcases exec_cases i s with ⟨_, hx⟩ | ⟨_, hx⟩ <;> exact ⟨_, hx⟩

theorem exists_hostTurn_eq_next (s : State) : ∃ t, hostTurn s = .next t := by
  rcases hostTurn_cases s with
    ⟨-, hx⟩ | ⟨p, rest, -, -, hx⟩ | ⟨_, _, -, -, hx⟩ | ⟨_, -, -, -, hx⟩ | ⟨_, -, -, hx⟩
  case inr.inl => exact hx ▸ exists_exec_eq_next p.presented { s with host := rest }
  all_goals exact ⟨_, hx⟩

theorem exists_step_eq_next (s : State) : ∃ t, step s = .next t := by
  rcases step_cases s with ⟨-, hx⟩ | ⟨-, hx⟩ | ⟨_, -, hx⟩
  · exact hx ▸ exists_hostTurn_eq_next s.takeTurn
  all_goals exact ⟨_, hx⟩

end Sys2Proof.Machine

/-! ## The obligations of 60_exceptions.md -/

section
open Sys2Proof Sys2Proof.Machine

/-- Settles O21: for a write to CMD by the lifecycle of a presented command, for a register write by the BUSY and DOMAIN
clauses of O14 and O15. -/
theorem errorPriority : Obligations.ErrorPriority := by
  unfold Obligations.ErrorPriority
  refine ⟨fun _ _ hb => exec_presentedCommand_busy rfl hb, fun _ _ hb hillegal => exec_wrCmd_illegal hb hillegal,
    fun _ _ _ hb hc hlut hs => exec_uncommitted (command?_wrCmd_of_decode hc) hlut hb hs,
    fun s v hb => ?busy, fun s v hb => ?domain⟩
  all_goals
    obtain ⟨hblockBusy, hblockDomain, -⟩ := blockRegisterWrites s v
    obtain ⟨hroundsBusy, hroundsDomain, -⟩ := roundsWrite s v
  case busy =>
    obtain ⟨hdin, hkey0, hkey1⟩ := hblockBusy hb
    simpa using ⟨hdin, hkey0, hkey1, hroundsBusy hb⟩
  case domain => exact ⟨fun hwide => by simpa using hblockDomain hb hwide, hroundsDomain hb⟩

/-- Settles O57: of the cases of a step only an accepted command and reset clear ERR, and the engine's turn keeps it. -/
theorem errIsClearedOnlyByAcceptanceOrReset : Obligations.ErrIsClearedOnlyByAcceptanceOrReset := by
  unfold Obligations.ErrIsClearedOnlyByAcceptanceOrReset
  refine fun s t h => ⟨fun herr hclear => ?_, fun hturn => step_err_of_engine_turn hturn h⟩
  cases step_effect h with
  | unchanged he => exact absurd (he ▸ hclear) herr
  | transaction i hi hx => exact .inl ⟨i, hi, hx.err_cleared_cause herr hclear⟩
  | engine _ _ he => exact absurd (by simpa [he] using hclear) herr
  | reset level hturn _ => exact .inr ⟨level, hturn⟩

/-- Settles O9: no case of a step and no case of a transaction is a fault or a refusal. -/
theorem nothingEverStopsTheMachine : Obligations.NothingEverStopsTheMachine := by
  unfold Obligations.NothingEverStopsTheMachine
  exact ⟨exists_step_eq_next, exists_exec_eq_next⟩

end

/-! ## The change of `rst_n`, the host's turn while it is 0, and a host with no line left -/

namespace Sys2Proof.Machine

/-- A turn of the pin is the change of the pin, with the turn used up. -/
theorem step_of_rst_turn {s : State} {level : Bool} (ht : s.turn = .rst level) :
    step s = .next (rstTurn level s.takeTurn) := by
  simp [step, ht]

/-- The pin that falls, stays 0 or returns to 1 gives SBC8 its reset state (R230); only one that was 1 and stays 1 does
not. -/
theorem rstTurn_dev_of_reset {s : State} {level : Bool} (h : level = false ∨ s.rstN = false) :
    (rstTurn level s).dev = Device.reset := by
  rcases h with h | h <;> simp [h]

/-- No read returns while reset is asserted: a transaction's line is dropped, and a `WAIT` stays (R231). -/
theorem hostTurn_reads_of_reset {s t : State} (hr : s.rstN = false) (h : hostTurn s = .next t) :
    t.reads = s.reads := by
  rcases hostTurn_cases s with
    ⟨-, hx⟩ | ⟨_, _, -, hr', -⟩ | ⟨_, _, -, -, hx⟩ | ⟨_, -, hr', -, -⟩ | ⟨_, -, -, hx⟩
  case inr.inl | inr.inr.inr.inl => simp [hr] at hr'
  all_goals cases hx.symm.trans h; rfl

theorem hostTurn_of_host_nil {s : State} (hh : s.host = []) : hostTurn s = .next s := by
  simp [hostTurn, hh]

theorem takeTurn_of_sched_nil {s : State} (hs : s.sched = []) : s.takeTurn = s := by
  rw [State.takeTurn, hs, List.tail_nil, ← hs]

end Sys2Proof.Machine

/-! ## The obligations of 70_reset_and_hazards.md -/

section
open Sys2Proof Sys2Proof.Machine

/-- Settles O52: the turn is the host's, which performs no transaction and ends no `WAIT`, or the engine's, which takes no
step. -/
theorem nothingMovesWhileResetIsAsserted : Obligations.NothingMovesWhileResetIsAsserted := by
  unfold Obligations.NothingMovesWhileResetIsAsserted
  intro s t hr hturn h
  rcases step_cases s with ⟨-, hx⟩ | ⟨-, hx⟩ | ⟨level, ht, -⟩
  case inl =>
    have hhost := hx.symm.trans h
    exact ⟨hostTurn_dev_of_reset (s := s.takeTurn) hr hhost, hostTurn_reads_of_reset (s := s.takeTurn) hr hhost,
      (hostTurn_rstN hhost).trans hr⟩
  case inr.inl =>
    rw [engineTurn_of_reset (s := s.takeTurn) hr] at hx
    cases hx.symm.trans h
    exact ⟨rfl, rfl, hr⟩
  case inr.inr => exact absurd ht (hturn level)

/-- Settles O10: it is the host's turn, since the engine is idle, and the host has no line. -/
theorem finishedMachineExecutesNothing : Obligations.FinishedMachineExecutesNothing := by
  unfold Obligations.FinishedMachineExecutesNothing
  rintro s ⟨hhost, -, hidle⟩ hs
  rw [step, turn_eq_host_of_idle hs hidle, takeTurn_of_sched_nil hs]
  exact hostTurn_of_host_nil hhost

/-- Settles O51: the step is the change of the pin, which leaves the environment and gives SBC8 its reset state; the register
map of that one state is evaluated. -/
theorem resetGivesEveryRegisterItsResetValue : Obligations.ResetGivesEveryRegisterItsResetValue := by
  unfold Obligations.ResetGivesEveryRegisterItsResetValue
  intro s level ht hlow
  refine ⟨rstTurn level s.takeTurn, step_of_rst_turn ht, rfl, rfl, rfl, rfl, ?_⟩
  rw [rstTurn_dev_of_reset (s := s.takeTurn) hlow]
  decide

end
